-- ==== Sys2Proof/Word.lean ====
section
/-! DEFINITION. The word types of the gb-rs core (spec/00_scope.md R6, R8). -/

namespace Sys2Proof

/-- An 8-bit value: a general register, a memory byte, an opcode byte (R6). -/
abbrev Byte := BitVec 8

/-- A 16-bit value: an address, SP, PC or a paired view (R6). -/
abbrev Word := BitVec 16

/-- A packed 32-bit colour of the frame buffer (R6, R341). -/
abbrev Color := BitVec 32

end Sys2Proof
end

