-- ==== Sys2Proof/Config.lean ====
section
/-! DEFINITION. The parameters of spec/00_scope.md R7 as plain data.
`Config` holds what a running machine depends on and never changes: the two images and the open
choices. `LoadInput` holds what only the load and the reset use (spec/70_reset_and_hazards.md R390,
R392). No parameter is fixed here: a statement about every `Config` is one about every setting. -/

namespace Sys2Proof

/-- An entry of the dispatch tables: a base opcode byte, or a second byte after the prefix 0xCB (R93). -/
inductive Opcode where
  | base (op : Byte)
  | cb (op2 : Byte)
  deriving DecidableEq, Repr

/-- `ACC_ROTATE_Z` (R7, D35): where the accumulator rotates take Z from. -/
inductive AccRotateZ where
  | fromResult
  | alwaysClear
  deriving DecidableEq, Repr

/-- `VRAM_POLICY` (R7, D15): whether the CPU is kept out of VRAM in OAM and Transfer. -/
inductive VramPolicy where
  | blockOamTransfer
  | openAlways
  deriving DecidableEq, Repr

/-- `SHADE_COLOR` (R7, D24): the packed colour of each of the four shades. -/
structure ShadeColors where
  shade0 : Color
  shade1 : Color
  shade2 : Color
  shade3 : Color
  deriving DecidableEq, Repr

/-- One entry of `CYCLE_COST`: the T-cycles when taken and when not taken. An instruction without a
condition has the same number twice (R413, R415). For a prefixed opcode it is the base cost, before
`CB_OVERHEAD` (R414). -/
structure Cost where
  taken : Nat
  notTaken : Nat
  deriving DecidableEq, Repr

/-- An entry in which `CYCLE_COST` differs from the default table of R413 and R414. -/
structure CostChange where
  op : Opcode
  cost : Cost
  deriving DecidableEq, Repr

/-- The configuration of a machine (R43: "The configuration, not state"). -/
structure Config where
  /-- `ROMIMG`, the cartridge image (R62). -/
  rom : List Byte
  /-- `BOOT`, the boot overlay; none when no 256-byte `BOOT_ROM` was supplied (R34, R394). -/
  boot : Option (List Byte)
  /-- `ADMIT_GENERAL` (R106). -/
  admitGeneral : Bool
  /-- `ACC_ROTATE_Z` (R232 to R235). -/
  accRotateZ : AccRotateZ
  /-- `VRAM_POLICY` (R350, R351). -/
  vramPolicy : VramPolicy
  /-- `VRAM_SENTINEL` (R350). -/
  vramSentinel : Byte
  /-- `ROM_PAD` (R63). -/
  romPad : Byte
  /-- `SHADE_COLOR` (R341). -/
  shades : ShadeColors
  /-- `CYCLE_COST`, as the entries that differ from the default table (R413, R414; log 8). -/
  costChanges : List CostChange
  /-- `CB_OVERHEAD` (R414). -/
  cbOverhead : Nat
  deriving DecidableEq, Repr

/-- Every parameter at the default of R7, with no image supplied. -/
def Config.standard : Config where
  rom := []
  boot := none
  admitGeneral := true
  accRotateZ := .fromResult
  vramPolicy := .blockOamTransfer
  vramSentinel := 0xFF#8
  romPad := 0xFF#8
  shades := ⟨0x00FFFFFF#32, 0x00AAAAAA#32, 0x00555555#32, 0x00000000#32⟩
  costChanges := []
  cbOverhead := 4

/-- `START` (R7, D6). -/
inductive Start where
  | powerOn
  | postBoot
  deriving DecidableEq, Repr

/-- `RESET_REGS` (R7, D7): the registers and flags at `PowerOn`. -/
structure ResetRegs where
  a : Byte
  b : Byte
  c : Byte
  d : Byte
  e : Byte
  h : Byte
  l : Byte
  zf : Bool
  nf : Bool
  hf : Bool
  cf : Bool
  sp : Word
  deriving DecidableEq, Repr

/-- The inputs of a load (R390, R405). -/
structure LoadInput where
  /-- `ROM`; none when it cannot be read (R377). -/
  rom : Option (List Byte)
  /-- `BOOT_ROM`, when the host supplies one (R394). -/
  boot : Option (List Byte)
  /-- `START`. -/
  start : Start
  /-- `RESET_REGS`. -/
  resetRegs : ResetRegs
  /-- `IME_RESET`. -/
  imeReset : Bool
  /-- `INIT_RAM`: the initial bytes of VRAM, WRAM, PORT and HRAM by bus address (D9; log 20). -/
  initRam : List (Nat × Byte)
  /-- `INIT_RAM`: the initial frame buffer, row-major (D9; log 20). -/
  initFb : List Color
  /-- The other parameters. Its two images are replaced by the ones loaded. -/
  params : Config
  deriving DecidableEq, Repr

end Sys2Proof
end

