-- ==== Sys2Proof/Syntax.lean ====
section
/-! DEFINITION. The instructions: one constructor per row of spec/opcode_table.json (511 rows, R103,
R105, R112), the operand tables of spec/30_encoding.md section 2, and, for each family, the function
from its operand fields to its constructor. `n` is an unsigned byte, `nn` a 16-bit immediate, `e` a
signed displacement (R102). In a constructor's name `mHL`, `mBC`, `mDE`, `mnn` are memory at that
address, `mHLinc`/`mHLdec` the (HL+) and (HL-) forms, `ion` and `ioC` memory at 0xFF00 + n and
0xFF00 + C (R132). -/

namespace Sys2Proof

/-- The 8-bit registers of the operand field `r` (R95), without the (HL) entry. -/
inductive Reg8 where
  | b | c | d | e | h | l | a
  deriving DecidableEq, Repr

/-- The 8-bit operand field `r` (R95): a register, or the byte in memory at HL. -/
inductive Src8 where
  | reg (r : Reg8)
  | mHL
  deriving DecidableEq, Repr

/-- The 16-bit register field `rr` (R96). -/
inductive Reg16 where
  | bc | de | hl | sp
  deriving DecidableEq, Repr

/-- The stack register field `qq` (R97). -/
inductive StackReg where
  | bc | de | hl | af
  deriving DecidableEq, Repr

/-- The condition field `cc` (R98). -/
inductive Cond where
  | nz | z | nc | c
  deriving DecidableEq, Repr

/-- The ALU field `alu` (R99). -/
inductive AluOp where
  | add | adc | sub | sbc | and | xor | or | cp
  deriving DecidableEq, Repr

/-- The rotate/shift field `rot` (R100). -/
inductive RotOp where
  | rlc | rrc | rl | rr | sla | sra | swap | srl
  deriving DecidableEq, Repr

/-- The 11 base bytes without an instruction (R105). -/
inductive UndefinedByte where
  | uD3 | uDB | uDD | uE3 | uE4 | uEB | uEC | uED | uF4 | uFC | uFD
  deriving DecidableEq, Repr

/-- One constructor per row of spec/opcode_table.json: the rows with operand bytes, then the others, each
in the table's order (Lean's compiler bounds the position of a constructor with fields). -/
inductive Instr where
  | ld_BC_nn (nn : Word) -- 01 LD BC,nn R141
  | ld_B_n (n : Byte) -- 06 LD B,n R124
  | ld_mnn_SP (nn : Word) -- 08 LD (nn),SP R142
  | ld_C_n (n : Byte) -- 0E LD C,n R124
  | stop (n : Byte) -- 10 STOP R303
  | ld_DE_nn (nn : Word) -- 11 LD DE,nn R141
  | ld_D_n (n : Byte) -- 16 LD D,n R124
  | jr_e (e : Int) -- 18 JR e R274
  | ld_E_n (n : Byte) -- 1E LD E,n R124
  | jr_NZ_e (e : Int) -- 20 JR NZ,e R275
  | ld_HL_nn (nn : Word) -- 21 LD HL,nn R141
  | ld_H_n (n : Byte) -- 26 LD H,n R124
  | jr_Z_e (e : Int) -- 28 JR Z,e R275
  | ld_L_n (n : Byte) -- 2E LD L,n R124
  | jr_NC_e (e : Int) -- 30 JR NC,e R275
  | ld_SP_nn (nn : Word) -- 31 LD SP,nn R141
  | ld_mHL_n (n : Byte) -- 36 LD (HL),n R125
  | jr_C_e (e : Int) -- 38 JR C,e R275
  | ld_A_n (n : Byte) -- 3E LD A,n R124
  | jp_NZ_nn (nn : Word) -- C2 JP NZ,nn R272
  | jp_nn (nn : Word) -- C3 JP nn R271
  | call_NZ_nn (nn : Word) -- C4 CALL NZ,nn R277
  | add_A_n (n : Byte) -- C6 ADD A,n R168
  | jp_Z_nn (nn : Word) -- CA JP Z,nn R272
  | call_Z_nn (nn : Word) -- CC CALL Z,nn R277
  | call_nn (nn : Word) -- CD CALL nn R276
  | adc_A_n (n : Byte) -- CE ADC A,n R171
  | jp_NC_nn (nn : Word) -- D2 JP NC,nn R272
  | call_NC_nn (nn : Word) -- D4 CALL NC,nn R277
  | sub_n (n : Byte) -- D6 SUB n R174
  | jp_C_nn (nn : Word) -- DA JP C,nn R272
  | call_C_nn (nn : Word) -- DC CALL C,nn R277
  | sbc_A_n (n : Byte) -- DE SBC A,n R177
  | ldh_ion_A (n : Byte) -- E0 LDH (n),A R134
  | and_n (n : Byte) -- E6 AND n R180
  | add_SP_e (e : Int) -- E8 ADD SP,e R214
  | ld_mnn_A (nn : Word) -- EA LD (nn),A R131
  | xor_n (n : Byte) -- EE XOR n R183
  | ldh_A_ion (n : Byte) -- F0 LDH A,(n) R133
  | or_n (n : Byte) -- F6 OR n R186
  | ld_HL_SPe (e : Int) -- F8 LD HL,SP+e R215
  | ld_A_mnn (nn : Word) -- FA LD A,(nn) R130
  | cp_n (n : Byte) -- FE CP n R189
  | nop -- 00 NOP R300
  | ld_mBC_A -- 02 LD (BC),A R128
  | inc_BC -- 03 INC BC R210
  | inc_B -- 04 INC B R192
  | dec_B -- 05 DEC B R194
  | rlca -- 07 RLCA R232
  | add_HL_BC -- 09 ADD HL,BC R212
  | ld_A_mBC -- 0A LD A,(BC) R126
  | dec_BC -- 0B DEC BC R211
  | inc_C -- 0C INC C R192
  | dec_C -- 0D DEC C R194
  | rrca -- 0F RRCA R233
  | ld_mDE_A -- 12 LD (DE),A R129
  | inc_DE -- 13 INC DE R210
  | inc_D -- 14 INC D R192
  | dec_D -- 15 DEC D R194
  | rla -- 17 RLA R234
  | add_HL_DE -- 19 ADD HL,DE R212
  | ld_A_mDE -- 1A LD A,(DE) R127
  | dec_DE -- 1B DEC DE R211
  | inc_E -- 1C INC E R192
  | dec_E -- 1D DEC E R194
  | rra -- 1F RRA R235
  | ld_mHLinc_A -- 22 LD (HL+),A R139
  | inc_HL -- 23 INC HL R210
  | inc_H -- 24 INC H R192
  | dec_H -- 25 DEC H R194
  | daa -- 27 DAA R196
  | add_HL_HL -- 29 ADD HL,HL R212
  | ld_A_mHLinc -- 2A LD A,(HL+) R137
  | dec_HL -- 2B DEC HL R211
  | inc_L -- 2C INC L R192
  | dec_L -- 2D DEC L R194
  | cpl -- 2F CPL R197
  | ld_mHLdec_A -- 32 LD (HL-),A R140
  | inc_SP -- 33 INC SP R210
  | inc_mHL -- 34 INC (HL) R193
  | dec_mHL -- 35 DEC (HL) R195
  | scf -- 37 SCF R198
  | add_HL_SP -- 39 ADD HL,SP R212
  | ld_A_mHLdec -- 3A LD A,(HL-) R138
  | dec_SP -- 3B DEC SP R211
  | inc_A -- 3C INC A R192
  | dec_A -- 3D DEC A R194
  | ccf -- 3F CCF R199
  | ld_B_B -- 40 LD B,B R121
  | ld_B_C -- 41 LD B,C R121
  | ld_B_D -- 42 LD B,D R121
  | ld_B_E -- 43 LD B,E R121
  | ld_B_H -- 44 LD B,H R121
  | ld_B_L -- 45 LD B,L R121
  | ld_B_mHL -- 46 LD B,(HL) R122
  | ld_B_A -- 47 LD B,A R121
  | ld_C_B -- 48 LD C,B R121
  | ld_C_C -- 49 LD C,C R121
  | ld_C_D -- 4A LD C,D R121
  | ld_C_E -- 4B LD C,E R121
  | ld_C_H -- 4C LD C,H R121
  | ld_C_L -- 4D LD C,L R121
  | ld_C_mHL -- 4E LD C,(HL) R122
  | ld_C_A -- 4F LD C,A R121
  | ld_D_B -- 50 LD D,B R121
  | ld_D_C -- 51 LD D,C R121
  | ld_D_D -- 52 LD D,D R121
  | ld_D_E -- 53 LD D,E R121
  | ld_D_H -- 54 LD D,H R121
  | ld_D_L -- 55 LD D,L R121
  | ld_D_mHL -- 56 LD D,(HL) R122
  | ld_D_A -- 57 LD D,A R121
  | ld_E_B -- 58 LD E,B R121
  | ld_E_C -- 59 LD E,C R121
  | ld_E_D -- 5A LD E,D R121
  | ld_E_E -- 5B LD E,E R121
  | ld_E_H -- 5C LD E,H R121
  | ld_E_L -- 5D LD E,L R121
  | ld_E_mHL -- 5E LD E,(HL) R122
  | ld_E_A -- 5F LD E,A R121
  | ld_H_B -- 60 LD H,B R121
  | ld_H_C -- 61 LD H,C R121
  | ld_H_D -- 62 LD H,D R121
  | ld_H_E -- 63 LD H,E R121
  | ld_H_H -- 64 LD H,H R121
  | ld_H_L -- 65 LD H,L R121
  | ld_H_mHL -- 66 LD H,(HL) R122
  | ld_H_A -- 67 LD H,A R121
  | ld_L_B -- 68 LD L,B R121
  | ld_L_C -- 69 LD L,C R121
  | ld_L_D -- 6A LD L,D R121
  | ld_L_E -- 6B LD L,E R121
  | ld_L_H -- 6C LD L,H R121
  | ld_L_L -- 6D LD L,L R121
  | ld_L_mHL -- 6E LD L,(HL) R122
  | ld_L_A -- 6F LD L,A R121
  | ld_mHL_B -- 70 LD (HL),B R123
  | ld_mHL_C -- 71 LD (HL),C R123
  | ld_mHL_D -- 72 LD (HL),D R123
  | ld_mHL_E -- 73 LD (HL),E R123
  | ld_mHL_H -- 74 LD (HL),H R123
  | ld_mHL_L -- 75 LD (HL),L R123
  | halt -- 76 HALT R302
  | ld_mHL_A -- 77 LD (HL),A R123
  | ld_A_B -- 78 LD A,B R121
  | ld_A_C -- 79 LD A,C R121
  | ld_A_D -- 7A LD A,D R121
  | ld_A_E -- 7B LD A,E R121
  | ld_A_H -- 7C LD A,H R121
  | ld_A_L -- 7D LD A,L R121
  | ld_A_mHL -- 7E LD A,(HL) R122
  | ld_A_A -- 7F LD A,A R121
  | add_A_B -- 80 ADD A,B R166
  | add_A_C -- 81 ADD A,C R166
  | add_A_D -- 82 ADD A,D R166
  | add_A_E -- 83 ADD A,E R166
  | add_A_H -- 84 ADD A,H R166
  | add_A_L -- 85 ADD A,L R166
  | add_A_mHL -- 86 ADD A,(HL) R167
  | add_A_A -- 87 ADD A,A R166
  | adc_A_B -- 88 ADC A,B R169
  | adc_A_C -- 89 ADC A,C R169
  | adc_A_D -- 8A ADC A,D R169
  | adc_A_E -- 8B ADC A,E R169
  | adc_A_H -- 8C ADC A,H R169
  | adc_A_L -- 8D ADC A,L R169
  | adc_A_mHL -- 8E ADC A,(HL) R170
  | adc_A_A -- 8F ADC A,A R169
  | sub_B -- 90 SUB B R172
  | sub_C -- 91 SUB C R172
  | sub_D -- 92 SUB D R172
  | sub_E -- 93 SUB E R172
  | sub_H -- 94 SUB H R172
  | sub_L -- 95 SUB L R172
  | sub_mHL -- 96 SUB (HL) R173
  | sub_A -- 97 SUB A R172
  | sbc_A_B -- 98 SBC A,B R175
  | sbc_A_C -- 99 SBC A,C R175
  | sbc_A_D -- 9A SBC A,D R175
  | sbc_A_E -- 9B SBC A,E R175
  | sbc_A_H -- 9C SBC A,H R175
  | sbc_A_L -- 9D SBC A,L R175
  | sbc_A_mHL -- 9E SBC A,(HL) R176
  | sbc_A_A -- 9F SBC A,A R175
  | and_B -- A0 AND B R178
  | and_C -- A1 AND C R178
  | and_D -- A2 AND D R178
  | and_E -- A3 AND E R178
  | and_H -- A4 AND H R178
  | and_L -- A5 AND L R178
  | and_mHL -- A6 AND (HL) R179
  | and_A -- A7 AND A R178
  | xor_B -- A8 XOR B R181
  | xor_C -- A9 XOR C R181
  | xor_D -- AA XOR D R181
  | xor_E -- AB XOR E R181
  | xor_H -- AC XOR H R181
  | xor_L -- AD XOR L R181
  | xor_mHL -- AE XOR (HL) R182
  | xor_A -- AF XOR A R181
  | or_B -- B0 OR B R184
  | or_C -- B1 OR C R184
  | or_D -- B2 OR D R184
  | or_E -- B3 OR E R184
  | or_H -- B4 OR H R184
  | or_L -- B5 OR L R184
  | or_mHL -- B6 OR (HL) R185
  | or_A -- B7 OR A R184
  | cp_B -- B8 CP B R187
  | cp_C -- B9 CP C R187
  | cp_D -- BA CP D R187
  | cp_E -- BB CP E R187
  | cp_H -- BC CP H R187
  | cp_L -- BD CP L R187
  | cp_mHL -- BE CP (HL) R188
  | cp_A -- BF CP A R187
  | ret_NZ -- C0 RET NZ R279
  | pop_BC -- C1 POP BC R154
  | push_BC -- C5 PUSH BC R152
  | rst_00H -- C7 RST 00H R282
  | ret_Z -- C8 RET Z R279
  | ret -- C9 RET R278
  | rst_08H -- CF RST 08H R282
  | ret_NC -- D0 RET NC R279
  | pop_DE -- D1 POP DE R154
  | undefined_D3 -- D3 UNDEFINED R301
  | push_DE -- D5 PUSH DE R152
  | rst_10H -- D7 RST 10H R282
  | ret_C -- D8 RET C R279
  | reti -- D9 RETI R280
  | undefined_DB -- DB UNDEFINED R301
  | undefined_DD -- DD UNDEFINED R301
  | rst_18H -- DF RST 18H R282
  | pop_HL -- E1 POP HL R154
  | ld_ioC_A -- E2 LD (C),A R136
  | undefined_E3 -- E3 UNDEFINED R301
  | undefined_E4 -- E4 UNDEFINED R301
  | push_HL -- E5 PUSH HL R152
  | rst_20H -- E7 RST 20H R282
  | jp_HL -- E9 JP (HL) R273
  | undefined_EB -- EB UNDEFINED R301
  | undefined_EC -- EC UNDEFINED R301
  | undefined_ED -- ED UNDEFINED R301
  | rst_28H -- EF RST 28H R282
  | pop_AF -- F1 POP AF R153
  | ld_A_ioC -- F2 LD A,(C) R135
  | di -- F3 DI R304
  | undefined_F4 -- F4 UNDEFINED R301
  | push_AF -- F5 PUSH AF R152
  | rst_30H -- F7 RST 30H R282
  | ld_SP_HL -- F9 LD SP,HL R143
  | ei -- FB EI R305
  | undefined_FC -- FC UNDEFINED R301
  | undefined_FD -- FD UNDEFINED R301
  | rst_38H -- FF RST 38H R282
  | rlc_B -- CB 00 RLC B R236
  | rlc_C -- CB 01 RLC C R236
  | rlc_D -- CB 02 RLC D R236
  | rlc_E -- CB 03 RLC E R236
  | rlc_H -- CB 04 RLC H R236
  | rlc_L -- CB 05 RLC L R236
  | rlc_mHL -- CB 06 RLC (HL) R237
  | rlc_A -- CB 07 RLC A R236
  | rrc_B -- CB 08 RRC B R238
  | rrc_C -- CB 09 RRC C R238
  | rrc_D -- CB 0A RRC D R238
  | rrc_E -- CB 0B RRC E R238
  | rrc_H -- CB 0C RRC H R238
  | rrc_L -- CB 0D RRC L R238
  | rrc_mHL -- CB 0E RRC (HL) R239
  | rrc_A -- CB 0F RRC A R238
  | rl_B -- CB 10 RL B R240
  | rl_C -- CB 11 RL C R240
  | rl_D -- CB 12 RL D R240
  | rl_E -- CB 13 RL E R240
  | rl_H -- CB 14 RL H R240
  | rl_L -- CB 15 RL L R240
  | rl_mHL -- CB 16 RL (HL) R241
  | rl_A -- CB 17 RL A R240
  | rr_B -- CB 18 RR B R242
  | rr_C -- CB 19 RR C R242
  | rr_D -- CB 1A RR D R242
  | rr_E -- CB 1B RR E R242
  | rr_H -- CB 1C RR H R242
  | rr_L -- CB 1D RR L R242
  | rr_mHL -- CB 1E RR (HL) R243
  | rr_A -- CB 1F RR A R242
  | sla_B -- CB 20 SLA B R244
  | sla_C -- CB 21 SLA C R244
  | sla_D -- CB 22 SLA D R244
  | sla_E -- CB 23 SLA E R244
  | sla_H -- CB 24 SLA H R244
  | sla_L -- CB 25 SLA L R244
  | sla_mHL -- CB 26 SLA (HL) R245
  | sla_A -- CB 27 SLA A R244
  | sra_B -- CB 28 SRA B R246
  | sra_C -- CB 29 SRA C R246
  | sra_D -- CB 2A SRA D R246
  | sra_E -- CB 2B SRA E R246
  | sra_H -- CB 2C SRA H R246
  | sra_L -- CB 2D SRA L R246
  | sra_mHL -- CB 2E SRA (HL) R247
  | sra_A -- CB 2F SRA A R246
  | swap_B -- CB 30 SWAP B R248
  | swap_C -- CB 31 SWAP C R248
  | swap_D -- CB 32 SWAP D R248
  | swap_E -- CB 33 SWAP E R248
  | swap_H -- CB 34 SWAP H R248
  | swap_L -- CB 35 SWAP L R248
  | swap_mHL -- CB 36 SWAP (HL) R249
  | swap_A -- CB 37 SWAP A R248
  | srl_B -- CB 38 SRL B R250
  | srl_C -- CB 39 SRL C R250
  | srl_D -- CB 3A SRL D R250
  | srl_E -- CB 3B SRL E R250
  | srl_H -- CB 3C SRL H R250
  | srl_L -- CB 3D SRL L R250
  | srl_mHL -- CB 3E SRL (HL) R251
  | srl_A -- CB 3F SRL A R250
  | bit_0_B -- CB 40 BIT 0,B R252
  | bit_0_C -- CB 41 BIT 0,C R252
  | bit_0_D -- CB 42 BIT 0,D R252
  | bit_0_E -- CB 43 BIT 0,E R252
  | bit_0_H -- CB 44 BIT 0,H R252
  | bit_0_L -- CB 45 BIT 0,L R252
  | bit_0_mHL -- CB 46 BIT 0,(HL) R253
  | bit_0_A -- CB 47 BIT 0,A R252
  | bit_1_B -- CB 48 BIT 1,B R252
  | bit_1_C -- CB 49 BIT 1,C R252
  | bit_1_D -- CB 4A BIT 1,D R252
  | bit_1_E -- CB 4B BIT 1,E R252
  | bit_1_H -- CB 4C BIT 1,H R252
  | bit_1_L -- CB 4D BIT 1,L R252
  | bit_1_mHL -- CB 4E BIT 1,(HL) R253
  | bit_1_A -- CB 4F BIT 1,A R252
  | bit_2_B -- CB 50 BIT 2,B R252
  | bit_2_C -- CB 51 BIT 2,C R252
  | bit_2_D -- CB 52 BIT 2,D R252
  | bit_2_E -- CB 53 BIT 2,E R252
  | bit_2_H -- CB 54 BIT 2,H R252
  | bit_2_L -- CB 55 BIT 2,L R252
  | bit_2_mHL -- CB 56 BIT 2,(HL) R253
  | bit_2_A -- CB 57 BIT 2,A R252
  | bit_3_B -- CB 58 BIT 3,B R252
  | bit_3_C -- CB 59 BIT 3,C R252
  | bit_3_D -- CB 5A BIT 3,D R252
  | bit_3_E -- CB 5B BIT 3,E R252
  | bit_3_H -- CB 5C BIT 3,H R252
  | bit_3_L -- CB 5D BIT 3,L R252
  | bit_3_mHL -- CB 5E BIT 3,(HL) R253
  | bit_3_A -- CB 5F BIT 3,A R252
  | bit_4_B -- CB 60 BIT 4,B R252
  | bit_4_C -- CB 61 BIT 4,C R252
  | bit_4_D -- CB 62 BIT 4,D R252
  | bit_4_E -- CB 63 BIT 4,E R252
  | bit_4_H -- CB 64 BIT 4,H R252
  | bit_4_L -- CB 65 BIT 4,L R252
  | bit_4_mHL -- CB 66 BIT 4,(HL) R253
  | bit_4_A -- CB 67 BIT 4,A R252
  | bit_5_B -- CB 68 BIT 5,B R252
  | bit_5_C -- CB 69 BIT 5,C R252
  | bit_5_D -- CB 6A BIT 5,D R252
  | bit_5_E -- CB 6B BIT 5,E R252
  | bit_5_H -- CB 6C BIT 5,H R252
  | bit_5_L -- CB 6D BIT 5,L R252
  | bit_5_mHL -- CB 6E BIT 5,(HL) R253
  | bit_5_A -- CB 6F BIT 5,A R252
  | bit_6_B -- CB 70 BIT 6,B R252
  | bit_6_C -- CB 71 BIT 6,C R252
  | bit_6_D -- CB 72 BIT 6,D R252
  | bit_6_E -- CB 73 BIT 6,E R252
  | bit_6_H -- CB 74 BIT 6,H R252
  | bit_6_L -- CB 75 BIT 6,L R252
  | bit_6_mHL -- CB 76 BIT 6,(HL) R253
  | bit_6_A -- CB 77 BIT 6,A R252
  | bit_7_B -- CB 78 BIT 7,B R252
  | bit_7_C -- CB 79 BIT 7,C R252
  | bit_7_D -- CB 7A BIT 7,D R252
  | bit_7_E -- CB 7B BIT 7,E R252
  | bit_7_H -- CB 7C BIT 7,H R252
  | bit_7_L -- CB 7D BIT 7,L R252
  | bit_7_mHL -- CB 7E BIT 7,(HL) R253
  | bit_7_A -- CB 7F BIT 7,A R252
  | res_0_B -- CB 80 RES 0,B R254
  | res_0_C -- CB 81 RES 0,C R254
  | res_0_D -- CB 82 RES 0,D R254
  | res_0_E -- CB 83 RES 0,E R254
  | res_0_H -- CB 84 RES 0,H R254
  | res_0_L -- CB 85 RES 0,L R254
  | res_0_mHL -- CB 86 RES 0,(HL) R255
  | res_0_A -- CB 87 RES 0,A R254
  | res_1_B -- CB 88 RES 1,B R254
  | res_1_C -- CB 89 RES 1,C R254
  | res_1_D -- CB 8A RES 1,D R254
  | res_1_E -- CB 8B RES 1,E R254
  | res_1_H -- CB 8C RES 1,H R254
  | res_1_L -- CB 8D RES 1,L R254
  | res_1_mHL -- CB 8E RES 1,(HL) R255
  | res_1_A -- CB 8F RES 1,A R254
  | res_2_B -- CB 90 RES 2,B R254
  | res_2_C -- CB 91 RES 2,C R254
  | res_2_D -- CB 92 RES 2,D R254
  | res_2_E -- CB 93 RES 2,E R254
  | res_2_H -- CB 94 RES 2,H R254
  | res_2_L -- CB 95 RES 2,L R254
  | res_2_mHL -- CB 96 RES 2,(HL) R255
  | res_2_A -- CB 97 RES 2,A R254
  | res_3_B -- CB 98 RES 3,B R254
  | res_3_C -- CB 99 RES 3,C R254
  | res_3_D -- CB 9A RES 3,D R254
  | res_3_E -- CB 9B RES 3,E R254
  | res_3_H -- CB 9C RES 3,H R254
  | res_3_L -- CB 9D RES 3,L R254
  | res_3_mHL -- CB 9E RES 3,(HL) R255
  | res_3_A -- CB 9F RES 3,A R254
  | res_4_B -- CB A0 RES 4,B R254
  | res_4_C -- CB A1 RES 4,C R254
  | res_4_D -- CB A2 RES 4,D R254
  | res_4_E -- CB A3 RES 4,E R254
  | res_4_H -- CB A4 RES 4,H R254
  | res_4_L -- CB A5 RES 4,L R254
  | res_4_mHL -- CB A6 RES 4,(HL) R255
  | res_4_A -- CB A7 RES 4,A R254
  | res_5_B -- CB A8 RES 5,B R254
  | res_5_C -- CB A9 RES 5,C R254
  | res_5_D -- CB AA RES 5,D R254
  | res_5_E -- CB AB RES 5,E R254
  | res_5_H -- CB AC RES 5,H R254
  | res_5_L -- CB AD RES 5,L R254
  | res_5_mHL -- CB AE RES 5,(HL) R255
  | res_5_A -- CB AF RES 5,A R254
  | res_6_B -- CB B0 RES 6,B R254
  | res_6_C -- CB B1 RES 6,C R254
  | res_6_D -- CB B2 RES 6,D R254
  | res_6_E -- CB B3 RES 6,E R254
  | res_6_H -- CB B4 RES 6,H R254
  | res_6_L -- CB B5 RES 6,L R254
  | res_6_mHL -- CB B6 RES 6,(HL) R255
  | res_6_A -- CB B7 RES 6,A R254
  | res_7_B -- CB B8 RES 7,B R254
  | res_7_C -- CB B9 RES 7,C R254
  | res_7_D -- CB BA RES 7,D R254
  | res_7_E -- CB BB RES 7,E R254
  | res_7_H -- CB BC RES 7,H R254
  | res_7_L -- CB BD RES 7,L R254
  | res_7_mHL -- CB BE RES 7,(HL) R255
  | res_7_A -- CB BF RES 7,A R254
  | set_0_B -- CB C0 SET 0,B R256
  | set_0_C -- CB C1 SET 0,C R256
  | set_0_D -- CB C2 SET 0,D R256
  | set_0_E -- CB C3 SET 0,E R256
  | set_0_H -- CB C4 SET 0,H R256
  | set_0_L -- CB C5 SET 0,L R256
  | set_0_mHL -- CB C6 SET 0,(HL) R257
  | set_0_A -- CB C7 SET 0,A R256
  | set_1_B -- CB C8 SET 1,B R256
  | set_1_C -- CB C9 SET 1,C R256
  | set_1_D -- CB CA SET 1,D R256
  | set_1_E -- CB CB SET 1,E R256
  | set_1_H -- CB CC SET 1,H R256
  | set_1_L -- CB CD SET 1,L R256
  | set_1_mHL -- CB CE SET 1,(HL) R257
  | set_1_A -- CB CF SET 1,A R256
  | set_2_B -- CB D0 SET 2,B R256
  | set_2_C -- CB D1 SET 2,C R256
  | set_2_D -- CB D2 SET 2,D R256
  | set_2_E -- CB D3 SET 2,E R256
  | set_2_H -- CB D4 SET 2,H R256
  | set_2_L -- CB D5 SET 2,L R256
  | set_2_mHL -- CB D6 SET 2,(HL) R257
  | set_2_A -- CB D7 SET 2,A R256
  | set_3_B -- CB D8 SET 3,B R256
  | set_3_C -- CB D9 SET 3,C R256
  | set_3_D -- CB DA SET 3,D R256
  | set_3_E -- CB DB SET 3,E R256
  | set_3_H -- CB DC SET 3,H R256
  | set_3_L -- CB DD SET 3,L R256
  | set_3_mHL -- CB DE SET 3,(HL) R257
  | set_3_A -- CB DF SET 3,A R256
  | set_4_B -- CB E0 SET 4,B R256
  | set_4_C -- CB E1 SET 4,C R256
  | set_4_D -- CB E2 SET 4,D R256
  | set_4_E -- CB E3 SET 4,E R256
  | set_4_H -- CB E4 SET 4,H R256
  | set_4_L -- CB E5 SET 4,L R256
  | set_4_mHL -- CB E6 SET 4,(HL) R257
  | set_4_A -- CB E7 SET 4,A R256
  | set_5_B -- CB E8 SET 5,B R256
  | set_5_C -- CB E9 SET 5,C R256
  | set_5_D -- CB EA SET 5,D R256
  | set_5_E -- CB EB SET 5,E R256
  | set_5_H -- CB EC SET 5,H R256
  | set_5_L -- CB ED SET 5,L R256
  | set_5_mHL -- CB EE SET 5,(HL) R257
  | set_5_A -- CB EF SET 5,A R256
  | set_6_B -- CB F0 SET 6,B R256
  | set_6_C -- CB F1 SET 6,C R256
  | set_6_D -- CB F2 SET 6,D R256
  | set_6_E -- CB F3 SET 6,E R256
  | set_6_H -- CB F4 SET 6,H R256
  | set_6_L -- CB F5 SET 6,L R256
  | set_6_mHL -- CB F6 SET 6,(HL) R257
  | set_6_A -- CB F7 SET 6,A R256
  | set_7_B -- CB F8 SET 7,B R256
  | set_7_C -- CB F9 SET 7,C R256
  | set_7_D -- CB FA SET 7,D R256
  | set_7_E -- CB FB SET 7,E R256
  | set_7_H -- CB FC SET 7,H R256
  | set_7_L -- CB FD SET 7,L R256
  | set_7_mHL -- CB FE SET 7,(HL) R257
  | set_7_A -- CB FF SET 7,A R256
  deriving DecidableEq, Repr

namespace Instr

/-- `LD r,r'` (R121). -/
def ldReg : Reg8 → Reg8 → Instr
  | .b, .b => .ld_B_B
  | .b, .c => .ld_B_C
  | .b, .d => .ld_B_D
  | .b, .e => .ld_B_E
  | .b, .h => .ld_B_H
  | .b, .l => .ld_B_L
  | .b, .a => .ld_B_A
  | .c, .b => .ld_C_B
  | .c, .c => .ld_C_C
  | .c, .d => .ld_C_D
  | .c, .e => .ld_C_E
  | .c, .h => .ld_C_H
  | .c, .l => .ld_C_L
  | .c, .a => .ld_C_A
  | .d, .b => .ld_D_B
  | .d, .c => .ld_D_C
  | .d, .d => .ld_D_D
  | .d, .e => .ld_D_E
  | .d, .h => .ld_D_H
  | .d, .l => .ld_D_L
  | .d, .a => .ld_D_A
  | .e, .b => .ld_E_B
  | .e, .c => .ld_E_C
  | .e, .d => .ld_E_D
  | .e, .e => .ld_E_E
  | .e, .h => .ld_E_H
  | .e, .l => .ld_E_L
  | .e, .a => .ld_E_A
  | .h, .b => .ld_H_B
  | .h, .c => .ld_H_C
  | .h, .d => .ld_H_D
  | .h, .e => .ld_H_E
  | .h, .h => .ld_H_H
  | .h, .l => .ld_H_L
  | .h, .a => .ld_H_A
  | .l, .b => .ld_L_B
  | .l, .c => .ld_L_C
  | .l, .d => .ld_L_D
  | .l, .e => .ld_L_E
  | .l, .h => .ld_L_H
  | .l, .l => .ld_L_L
  | .l, .a => .ld_L_A
  | .a, .b => .ld_A_B
  | .a, .c => .ld_A_C
  | .a, .d => .ld_A_D
  | .a, .e => .ld_A_E
  | .a, .h => .ld_A_H
  | .a, .l => .ld_A_L
  | .a, .a => .ld_A_A

/-- `LD r,(HL)` (R122). -/
def ldRegMem : Reg8 → Instr
  | .b => .ld_B_mHL
  | .c => .ld_C_mHL
  | .d => .ld_D_mHL
  | .e => .ld_E_mHL
  | .h => .ld_H_mHL
  | .l => .ld_L_mHL
  | .a => .ld_A_mHL

/-- `LD (HL),r` (R123). -/
def ldMemReg : Reg8 → Instr
  | .b => .ld_mHL_B
  | .c => .ld_mHL_C
  | .d => .ld_mHL_D
  | .e => .ld_mHL_E
  | .h => .ld_mHL_H
  | .l => .ld_mHL_L
  | .a => .ld_mHL_A

/-- `LD r,n` (R124). -/
def ldRegImm : Reg8 → Byte → Instr
  | .b, n => .ld_B_n n
  | .c, n => .ld_C_n n
  | .d, n => .ld_D_n n
  | .e, n => .ld_E_n n
  | .h, n => .ld_H_n n
  | .l, n => .ld_L_n n
  | .a, n => .ld_A_n n

/-- `LD rr,nn` (R141). -/
def ldPairImm : Reg16 → Word → Instr
  | .bc, nn => .ld_BC_nn nn
  | .de, nn => .ld_DE_nn nn
  | .hl, nn => .ld_HL_nn nn
  | .sp, nn => .ld_SP_nn nn

/-- `PUSH qq` (R152). -/
def push : StackReg → Instr
  | .bc => .push_BC
  | .de => .push_DE
  | .hl => .push_HL
  | .af => .push_AF

/-- `POP qq` (R153, R154). -/
def pop : StackReg → Instr
  | .bc => .pop_BC
  | .de => .pop_DE
  | .hl => .pop_HL
  | .af => .pop_AF

/-- The 8-bit ALU on a register or (HL) (R166 to R188). -/
def alu : AluOp → Src8 → Instr
  | .add, .reg .b => .add_A_B
  | .add, .reg .c => .add_A_C
  | .add, .reg .d => .add_A_D
  | .add, .reg .e => .add_A_E
  | .add, .reg .h => .add_A_H
  | .add, .reg .l => .add_A_L
  | .add, .reg .a => .add_A_A
  | .add, .mHL => .add_A_mHL
  | .adc, .reg .b => .adc_A_B
  | .adc, .reg .c => .adc_A_C
  | .adc, .reg .d => .adc_A_D
  | .adc, .reg .e => .adc_A_E
  | .adc, .reg .h => .adc_A_H
  | .adc, .reg .l => .adc_A_L
  | .adc, .reg .a => .adc_A_A
  | .adc, .mHL => .adc_A_mHL
  | .sub, .reg .b => .sub_B
  | .sub, .reg .c => .sub_C
  | .sub, .reg .d => .sub_D
  | .sub, .reg .e => .sub_E
  | .sub, .reg .h => .sub_H
  | .sub, .reg .l => .sub_L
  | .sub, .reg .a => .sub_A
  | .sub, .mHL => .sub_mHL
  | .sbc, .reg .b => .sbc_A_B
  | .sbc, .reg .c => .sbc_A_C
  | .sbc, .reg .d => .sbc_A_D
  | .sbc, .reg .e => .sbc_A_E
  | .sbc, .reg .h => .sbc_A_H
  | .sbc, .reg .l => .sbc_A_L
  | .sbc, .reg .a => .sbc_A_A
  | .sbc, .mHL => .sbc_A_mHL
  | .and, .reg .b => .and_B
  | .and, .reg .c => .and_C
  | .and, .reg .d => .and_D
  | .and, .reg .e => .and_E
  | .and, .reg .h => .and_H
  | .and, .reg .l => .and_L
  | .and, .reg .a => .and_A
  | .and, .mHL => .and_mHL
  | .xor, .reg .b => .xor_B
  | .xor, .reg .c => .xor_C
  | .xor, .reg .d => .xor_D
  | .xor, .reg .e => .xor_E
  | .xor, .reg .h => .xor_H
  | .xor, .reg .l => .xor_L
  | .xor, .reg .a => .xor_A
  | .xor, .mHL => .xor_mHL
  | .or, .reg .b => .or_B
  | .or, .reg .c => .or_C
  | .or, .reg .d => .or_D
  | .or, .reg .e => .or_E
  | .or, .reg .h => .or_H
  | .or, .reg .l => .or_L
  | .or, .reg .a => .or_A
  | .or, .mHL => .or_mHL
  | .cp, .reg .b => .cp_B
  | .cp, .reg .c => .cp_C
  | .cp, .reg .d => .cp_D
  | .cp, .reg .e => .cp_E
  | .cp, .reg .h => .cp_H
  | .cp, .reg .l => .cp_L
  | .cp, .reg .a => .cp_A
  | .cp, .mHL => .cp_mHL

/-- The 8-bit ALU on an immediate (R168 to R189). -/
def aluImm : AluOp → Byte → Instr
  | .add, n => .add_A_n n
  | .adc, n => .adc_A_n n
  | .sub, n => .sub_n n
  | .sbc, n => .sbc_A_n n
  | .and, n => .and_n n
  | .xor, n => .xor_n n
  | .or, n => .or_n n
  | .cp, n => .cp_n n

/-- `INC r` and `INC (HL)` (R192, R193). -/
def inc8 : Src8 → Instr
  | .reg .b => .inc_B
  | .reg .c => .inc_C
  | .reg .d => .inc_D
  | .reg .e => .inc_E
  | .reg .h => .inc_H
  | .reg .l => .inc_L
  | .reg .a => .inc_A
  | .mHL => .inc_mHL

/-- `DEC r` and `DEC (HL)` (R194, R195). -/
def dec8 : Src8 → Instr
  | .reg .b => .dec_B
  | .reg .c => .dec_C
  | .reg .d => .dec_D
  | .reg .e => .dec_E
  | .reg .h => .dec_H
  | .reg .l => .dec_L
  | .reg .a => .dec_A
  | .mHL => .dec_mHL

/-- `INC rr` (R210). -/
def inc16 : Reg16 → Instr
  | .bc => .inc_BC
  | .de => .inc_DE
  | .hl => .inc_HL
  | .sp => .inc_SP

/-- `DEC rr` (R211). -/
def dec16 : Reg16 → Instr
  | .bc => .dec_BC
  | .de => .dec_DE
  | .hl => .dec_HL
  | .sp => .dec_SP

/-- `ADD HL,rr` (R212). -/
def addHl : Reg16 → Instr
  | .bc => .add_HL_BC
  | .de => .add_HL_DE
  | .hl => .add_HL_HL
  | .sp => .add_HL_SP

/-- The CB rotates, shifts and swap (R236 to R251). -/
def rot : RotOp → Src8 → Instr
  | .rlc, .reg .b => .rlc_B
  | .rlc, .reg .c => .rlc_C
  | .rlc, .reg .d => .rlc_D
  | .rlc, .reg .e => .rlc_E
  | .rlc, .reg .h => .rlc_H
  | .rlc, .reg .l => .rlc_L
  | .rlc, .reg .a => .rlc_A
  | .rlc, .mHL => .rlc_mHL
  | .rrc, .reg .b => .rrc_B
  | .rrc, .reg .c => .rrc_C
  | .rrc, .reg .d => .rrc_D
  | .rrc, .reg .e => .rrc_E
  | .rrc, .reg .h => .rrc_H
  | .rrc, .reg .l => .rrc_L
  | .rrc, .reg .a => .rrc_A
  | .rrc, .mHL => .rrc_mHL
  | .rl, .reg .b => .rl_B
  | .rl, .reg .c => .rl_C
  | .rl, .reg .d => .rl_D
  | .rl, .reg .e => .rl_E
  | .rl, .reg .h => .rl_H
  | .rl, .reg .l => .rl_L
  | .rl, .reg .a => .rl_A
  | .rl, .mHL => .rl_mHL
  | .rr, .reg .b => .rr_B
  | .rr, .reg .c => .rr_C
  | .rr, .reg .d => .rr_D
  | .rr, .reg .e => .rr_E
  | .rr, .reg .h => .rr_H
  | .rr, .reg .l => .rr_L
  | .rr, .reg .a => .rr_A
  | .rr, .mHL => .rr_mHL
  | .sla, .reg .b => .sla_B
  | .sla, .reg .c => .sla_C
  | .sla, .reg .d => .sla_D
  | .sla, .reg .e => .sla_E
  | .sla, .reg .h => .sla_H
  | .sla, .reg .l => .sla_L
  | .sla, .reg .a => .sla_A
  | .sla, .mHL => .sla_mHL
  | .sra, .reg .b => .sra_B
  | .sra, .reg .c => .sra_C
  | .sra, .reg .d => .sra_D
  | .sra, .reg .e => .sra_E
  | .sra, .reg .h => .sra_H
  | .sra, .reg .l => .sra_L
  | .sra, .reg .a => .sra_A
  | .sra, .mHL => .sra_mHL
  | .swap, .reg .b => .swap_B
  | .swap, .reg .c => .swap_C
  | .swap, .reg .d => .swap_D
  | .swap, .reg .e => .swap_E
  | .swap, .reg .h => .swap_H
  | .swap, .reg .l => .swap_L
  | .swap, .reg .a => .swap_A
  | .swap, .mHL => .swap_mHL
  | .srl, .reg .b => .srl_B
  | .srl, .reg .c => .srl_C
  | .srl, .reg .d => .srl_D
  | .srl, .reg .e => .srl_E
  | .srl, .reg .h => .srl_H
  | .srl, .reg .l => .srl_L
  | .srl, .reg .a => .srl_A
  | .srl, .mHL => .srl_mHL

/-- `BIT b` (R252, R253). -/
def bit : Fin 8 → Src8 → Instr
  | 0, .reg .b => .bit_0_B
  | 0, .reg .c => .bit_0_C
  | 0, .reg .d => .bit_0_D
  | 0, .reg .e => .bit_0_E
  | 0, .reg .h => .bit_0_H
  | 0, .reg .l => .bit_0_L
  | 0, .reg .a => .bit_0_A
  | 0, .mHL => .bit_0_mHL
  | 1, .reg .b => .bit_1_B
  | 1, .reg .c => .bit_1_C
  | 1, .reg .d => .bit_1_D
  | 1, .reg .e => .bit_1_E
  | 1, .reg .h => .bit_1_H
  | 1, .reg .l => .bit_1_L
  | 1, .reg .a => .bit_1_A
  | 1, .mHL => .bit_1_mHL
  | 2, .reg .b => .bit_2_B
  | 2, .reg .c => .bit_2_C
  | 2, .reg .d => .bit_2_D
  | 2, .reg .e => .bit_2_E
  | 2, .reg .h => .bit_2_H
  | 2, .reg .l => .bit_2_L
  | 2, .reg .a => .bit_2_A
  | 2, .mHL => .bit_2_mHL
  | 3, .reg .b => .bit_3_B
  | 3, .reg .c => .bit_3_C
  | 3, .reg .d => .bit_3_D
  | 3, .reg .e => .bit_3_E
  | 3, .reg .h => .bit_3_H
  | 3, .reg .l => .bit_3_L
  | 3, .reg .a => .bit_3_A
  | 3, .mHL => .bit_3_mHL
  | 4, .reg .b => .bit_4_B
  | 4, .reg .c => .bit_4_C
  | 4, .reg .d => .bit_4_D
  | 4, .reg .e => .bit_4_E
  | 4, .reg .h => .bit_4_H
  | 4, .reg .l => .bit_4_L
  | 4, .reg .a => .bit_4_A
  | 4, .mHL => .bit_4_mHL
  | 5, .reg .b => .bit_5_B
  | 5, .reg .c => .bit_5_C
  | 5, .reg .d => .bit_5_D
  | 5, .reg .e => .bit_5_E
  | 5, .reg .h => .bit_5_H
  | 5, .reg .l => .bit_5_L
  | 5, .reg .a => .bit_5_A
  | 5, .mHL => .bit_5_mHL
  | 6, .reg .b => .bit_6_B
  | 6, .reg .c => .bit_6_C
  | 6, .reg .d => .bit_6_D
  | 6, .reg .e => .bit_6_E
  | 6, .reg .h => .bit_6_H
  | 6, .reg .l => .bit_6_L
  | 6, .reg .a => .bit_6_A
  | 6, .mHL => .bit_6_mHL
  | 7, .reg .b => .bit_7_B
  | 7, .reg .c => .bit_7_C
  | 7, .reg .d => .bit_7_D
  | 7, .reg .e => .bit_7_E
  | 7, .reg .h => .bit_7_H
  | 7, .reg .l => .bit_7_L
  | 7, .reg .a => .bit_7_A
  | 7, .mHL => .bit_7_mHL

/-- `RES b` (R254, R255). -/
def res : Fin 8 → Src8 → Instr
  | 0, .reg .b => .res_0_B
  | 0, .reg .c => .res_0_C
  | 0, .reg .d => .res_0_D
  | 0, .reg .e => .res_0_E
  | 0, .reg .h => .res_0_H
  | 0, .reg .l => .res_0_L
  | 0, .reg .a => .res_0_A
  | 0, .mHL => .res_0_mHL
  | 1, .reg .b => .res_1_B
  | 1, .reg .c => .res_1_C
  | 1, .reg .d => .res_1_D
  | 1, .reg .e => .res_1_E
  | 1, .reg .h => .res_1_H
  | 1, .reg .l => .res_1_L
  | 1, .reg .a => .res_1_A
  | 1, .mHL => .res_1_mHL
  | 2, .reg .b => .res_2_B
  | 2, .reg .c => .res_2_C
  | 2, .reg .d => .res_2_D
  | 2, .reg .e => .res_2_E
  | 2, .reg .h => .res_2_H
  | 2, .reg .l => .res_2_L
  | 2, .reg .a => .res_2_A
  | 2, .mHL => .res_2_mHL
  | 3, .reg .b => .res_3_B
  | 3, .reg .c => .res_3_C
  | 3, .reg .d => .res_3_D
  | 3, .reg .e => .res_3_E
  | 3, .reg .h => .res_3_H
  | 3, .reg .l => .res_3_L
  | 3, .reg .a => .res_3_A
  | 3, .mHL => .res_3_mHL
  | 4, .reg .b => .res_4_B
  | 4, .reg .c => .res_4_C
  | 4, .reg .d => .res_4_D
  | 4, .reg .e => .res_4_E
  | 4, .reg .h => .res_4_H
  | 4, .reg .l => .res_4_L
  | 4, .reg .a => .res_4_A
  | 4, .mHL => .res_4_mHL
  | 5, .reg .b => .res_5_B
  | 5, .reg .c => .res_5_C
  | 5, .reg .d => .res_5_D
  | 5, .reg .e => .res_5_E
  | 5, .reg .h => .res_5_H
  | 5, .reg .l => .res_5_L
  | 5, .reg .a => .res_5_A
  | 5, .mHL => .res_5_mHL
  | 6, .reg .b => .res_6_B
  | 6, .reg .c => .res_6_C
  | 6, .reg .d => .res_6_D
  | 6, .reg .e => .res_6_E
  | 6, .reg .h => .res_6_H
  | 6, .reg .l => .res_6_L
  | 6, .reg .a => .res_6_A
  | 6, .mHL => .res_6_mHL
  | 7, .reg .b => .res_7_B
  | 7, .reg .c => .res_7_C
  | 7, .reg .d => .res_7_D
  | 7, .reg .e => .res_7_E
  | 7, .reg .h => .res_7_H
  | 7, .reg .l => .res_7_L
  | 7, .reg .a => .res_7_A
  | 7, .mHL => .res_7_mHL

/-- `SET b` (R256, R257). -/
def set : Fin 8 → Src8 → Instr
  | 0, .reg .b => .set_0_B
  | 0, .reg .c => .set_0_C
  | 0, .reg .d => .set_0_D
  | 0, .reg .e => .set_0_E
  | 0, .reg .h => .set_0_H
  | 0, .reg .l => .set_0_L
  | 0, .reg .a => .set_0_A
  | 0, .mHL => .set_0_mHL
  | 1, .reg .b => .set_1_B
  | 1, .reg .c => .set_1_C
  | 1, .reg .d => .set_1_D
  | 1, .reg .e => .set_1_E
  | 1, .reg .h => .set_1_H
  | 1, .reg .l => .set_1_L
  | 1, .reg .a => .set_1_A
  | 1, .mHL => .set_1_mHL
  | 2, .reg .b => .set_2_B
  | 2, .reg .c => .set_2_C
  | 2, .reg .d => .set_2_D
  | 2, .reg .e => .set_2_E
  | 2, .reg .h => .set_2_H
  | 2, .reg .l => .set_2_L
  | 2, .reg .a => .set_2_A
  | 2, .mHL => .set_2_mHL
  | 3, .reg .b => .set_3_B
  | 3, .reg .c => .set_3_C
  | 3, .reg .d => .set_3_D
  | 3, .reg .e => .set_3_E
  | 3, .reg .h => .set_3_H
  | 3, .reg .l => .set_3_L
  | 3, .reg .a => .set_3_A
  | 3, .mHL => .set_3_mHL
  | 4, .reg .b => .set_4_B
  | 4, .reg .c => .set_4_C
  | 4, .reg .d => .set_4_D
  | 4, .reg .e => .set_4_E
  | 4, .reg .h => .set_4_H
  | 4, .reg .l => .set_4_L
  | 4, .reg .a => .set_4_A
  | 4, .mHL => .set_4_mHL
  | 5, .reg .b => .set_5_B
  | 5, .reg .c => .set_5_C
  | 5, .reg .d => .set_5_D
  | 5, .reg .e => .set_5_E
  | 5, .reg .h => .set_5_H
  | 5, .reg .l => .set_5_L
  | 5, .reg .a => .set_5_A
  | 5, .mHL => .set_5_mHL
  | 6, .reg .b => .set_6_B
  | 6, .reg .c => .set_6_C
  | 6, .reg .d => .set_6_D
  | 6, .reg .e => .set_6_E
  | 6, .reg .h => .set_6_H
  | 6, .reg .l => .set_6_L
  | 6, .reg .a => .set_6_A
  | 6, .mHL => .set_6_mHL
  | 7, .reg .b => .set_7_B
  | 7, .reg .c => .set_7_C
  | 7, .reg .d => .set_7_D
  | 7, .reg .e => .set_7_E
  | 7, .reg .h => .set_7_H
  | 7, .reg .l => .set_7_L
  | 7, .reg .a => .set_7_A
  | 7, .mHL => .set_7_mHL

/-- `JR cc,e` (R275). -/
def jrCond : Cond → Int → Instr
  | .nz, e => .jr_NZ_e e
  | .z, e => .jr_Z_e e
  | .nc, e => .jr_NC_e e
  | .c, e => .jr_C_e e

/-- `JP cc,nn` (R272). -/
def jpCond : Cond → Word → Instr
  | .nz, nn => .jp_NZ_nn nn
  | .z, nn => .jp_Z_nn nn
  | .nc, nn => .jp_NC_nn nn
  | .c, nn => .jp_C_nn nn

/-- `CALL cc,nn` (R277). -/
def callCond : Cond → Word → Instr
  | .nz, nn => .call_NZ_nn nn
  | .z, nn => .call_Z_nn nn
  | .nc, nn => .call_NC_nn nn
  | .c, nn => .call_C_nn nn

/-- `RET cc` (R279). -/
def retCond : Cond → Instr
  | .nz => .ret_NZ
  | .z => .ret_Z
  | .nc => .ret_NC
  | .c => .ret_C

/-- `RST t` (R282). -/
def rst : Fin 8 → Instr
  | 0 => .rst_00H
  | 1 => .rst_08H
  | 2 => .rst_10H
  | 3 => .rst_18H
  | 4 => .rst_20H
  | 5 => .rst_28H
  | 6 => .rst_30H
  | 7 => .rst_38H

/-- The undefined bytes (R105, R301). -/
def undefined : UndefinedByte → Instr
  | .uD3 => .undefined_D3
  | .uDB => .undefined_DB
  | .uDD => .undefined_DD
  | .uE3 => .undefined_E3
  | .uE4 => .undefined_E4
  | .uEB => .undefined_EB
  | .uEC => .undefined_EC
  | .uED => .undefined_ED
  | .uF4 => .undefined_F4
  | .uFC => .undefined_FC
  | .uFD => .undefined_FD

end Instr

/-- The byte of an undefined row (R105). -/
def UndefinedByte.byte : UndefinedByte → Byte
  | .uD3 => 0xD3#8
  | .uDB => 0xDB#8
  | .uDD => 0xDD#8
  | .uE3 => 0xE3#8
  | .uE4 => 0xE4#8
  | .uEB => 0xEB#8
  | .uEC => 0xEC#8
  | .uED => 0xED#8
  | .uF4 => 0xF4#8
  | .uFC => 0xFC#8
  | .uFD => 0xFD#8

end Sys2Proof
end

