-- ==== Sys2Proof/Machine/State.lean ====
section
/-! DEFINITION. The state of the block (spec/10_state.md R43), its faults (spec/60_exceptions.md R361) and
its value after reset (R44). Everything is plain data. -/

namespace Sys2Proof.Machine

/-- The direction of a bus access (R361). -/
inductive Dir where
  | read
  | write
  deriving DecidableEq, Repr

/-- Why a load failed (R377). -/
inductive LoadReason where
  /-- The ROM input cannot be read. -/
  | unreadable
  /-- The byte at offset 0x147 is not 0x00. -/
  | unsupportedMapper (b : Byte)
  /-- The image has fewer than 0x148 bytes. -/
  | tooShort
  deriving DecidableEq, Repr

/-- The fault kinds of R361 with their payloads. A fault of a step is recorded in the status of the NEXT
state (R362 item 5: "`status <- Faulted(rec)`"), so `step` never answers with the outcome `fault`; log 6. -/
inductive Fault where
  /-- An access to an address in no row of the decode table (R53, R54): raised by any fetch, load, store,
  push or pop. Safe: the spec's own outcome. -/
  | busError (addr : Word) (dir : Dir)
  /-- A write of 0x0000 to 0x3FFF (R64): raised by any store or push. Safe: the spec's own outcome. -/
  | readOnlyViolation (addr : Word)
  /-- A byte with no entry in the dispatch table (R301, R306): raised by the 11 undefined rows, and with
  `ADMIT_GENERAL = false` by the fetch of a general-knowledge row. Safe: the spec's own outcome. -/
  | decodeError (opcode : Byte) (prefixed : Bool) (addr : Word)
  /-- Raised by the load alone, before any step (R377). Safe: the spec's own outcome. -/
  | loadError (reason : LoadReason)
  /-- Raised by the cartridge's persistent-memory accessors, which no bus row reaches (R65). Safe. -/
  | noPersistentMemory
  /-- Raised by a PPU register access of an address it does not own, which the bus never makes (R57).
  Safe. -/
  | unsupportedRegister (addr : Word)
  deriving DecidableEq, Repr

/-- What the model has no next state for. -/
inductive Refusal where
  /-- An instruction without a meaning: raised by a refused arm of `exec` (none is left). Safe. -/
  | notModelled (mnemonic : String)
  /-- The boot overlay is mapped and no 256-byte `BOOT_ROM` was supplied: raised by `step`
  (93_implementation_defined.md I5: "the model must `refuse` to run"). Safe. -/
  | bootRomAbsent
  deriving DecidableEq, Repr

/-- The register file (R20): seven 8-bit registers, the four state bits of F (R22), SP and PC. The views
BC, DE, HL, AF and the byte F are computed (R22 to R24), so they have no field. -/
structure RegFile where
  a : Byte
  b : Byte
  c : Byte
  d : Byte
  e : Byte
  h : Byte
  l : Byte
  /-- Z, bit 7 of F. -/
  zf : Bool
  /-- N, bit 6 of F. -/
  nf : Bool
  /-- Half-carry, bit 5 of F. -/
  hf : Bool
  /-- Carry, bit 4 of F. -/
  cf : Bool
  sp : Word
  pc : Word
  deriving DecidableEq, Repr

/-- The count `k` of a pending DI or EI action, 2 then 1 (R31). -/
inductive Delay where
  | two
  | one
  deriving DecidableEq, Repr

/-- A pending DI or EI action `(k, target)` (R31). -/
structure ImePend where
  k : Delay
  target : Bool
  deriving DecidableEq, Repr

/-- The fault record (R363): the fault with its payload and the register snapshot. -/
structure FaultRecord where
  fault : Fault
  regs : RegFile
  deriving DecidableEq, Repr

/-- The run status (R42). -/
inductive Status where
  | running
  | halted
  | faulted (record : FaultRecord)
  deriving DecidableEq, Repr

/-- The PPU mode (R320). -/
inductive Mode where
  | oam
  | transfer
  | hblank
  | vblank
  deriving DecidableEq, Repr

/-- A frame, row-major: its rows of packed colours, 144 of 160 (R342). -/
abbrev Frame := List (List Color)

/-- The display controller's registers and internal state (R35 to R38, R41). VRAM is in the memory. -/
structure Ppu where
  lcdc : Byte
  scy : Byte
  bgp : Byte
  mode : Mode
  countdown : Nat
  ly : Byte
  fb : Frame
  framesOut : List Frame
  deriving DecidableEq, Repr

/-- The writable memories VRAM, WRAM, PORT and HRAM (R34, R41) by bus address: pairs of address and byte,
addresses rising, no pair equal to what an unlisted address reads as (Machine/Memory.lean). -/
abbrev Memory := List Host.Cell

/-- The complete state of the block (R43). `cfg` is the configuration, which no step changes (log 1). -/
structure State where
  regs : RegFile
  ime : Bool
  imePend : Option ImePend
  cyclesTotal : Nat
  bootLatch : Bool
  mem : Memory
  ppu : Ppu
  status : Status
  cfg : Config
  deriving DecidableEq, Repr

/-- The block right after reset with `START = PowerOn` and every other parameter at its default (R44,
R392). A to L, the flags and SP are `RESET_REGS`, which the spec leaves open (log 2); memory lists nothing
(log 3) and the frame buffer is 0 (log 4), which are `INIT_RAM`, also open; no image is loaded (log 5). -/
def State.reset : State where
  regs := { a := 0, b := 0, c := 0, d := 0, e := 0, h := 0, l := 0, zf := false, nf := false, hf := false,
            cf := false, sp := 0, pc := 0x0000#16 }
  ime := false
  imePend := none
  cyclesTotal := 0
  bootLatch := true
  mem := []
  ppu := { lcdc := 0x00#8, scy := 0x00#8, bgp := 0x00#8, mode := .oam, countdown := 83, ly := 0#8,
           fb := List.replicate 144 (List.replicate 160 0#32), framesOut := [] }
  status := .running
  cfg := Config.standard

end Sys2Proof.Machine
end

