-- ==== Sys2Proof/Machine/Cost.lean ====
section
/-! DEFINITION. Cycle costs (spec/70_reset_and_hazards.md R412 to R415): the default table, row by row as R413
prints it, and the lookup through `CYCLE_COST`. -/

namespace Sys2Proof.Machine

/-- An entry `t/n` of R413. -/
def tn (t n : Nat) : Cost := ⟨t, n⟩

/-- An entry with one number. -/
def one (t : Nat) : Cost := ⟨t, t⟩

/-- An entry that is never charged: an undefined byte, or the prefix (R413, R414). -/
def noCost : Cost := ⟨0, 0⟩

/-- The rows 0x to 3x of R413. -/
def costRows03 : List (List Cost) :=
  [[one 4, one 12, one 8, one 8, one 4, one 4, one 8, one 4, one 20, one 8, one 8, one 8, one 4, one 4, one 8, one 4],
   [one 4, one 12, one 8, one 8, one 4, one 4, one 8, one 4, one 12, one 8, one 8, one 8, one 4, one 4, one 8, one 4],
   [tn 12 8, one 12, one 8, one 8, one 4, one 4, one 8, one 4, tn 12 8, one 8, one 8, one 8, one 4, one 4, one 8, one 4],
   [tn 12 8, one 12, one 8, one 8, one 12, one 12, one 12, one 4, tn 12 8, one 8, one 8, one 8, one 4, one 4, one 8, one 4]]

/-- A row of the register block 4x to Bx (R413): 8 in the (HL) columns 6 and E, else 4. -/
def costRowReg : List Cost :=
  [one 4, one 4, one 4, one 4, one 4, one 4, one 8, one 4, one 4, one 4, one 4, one 4, one 4, one 4, one 8, one 4]

/-- The row 7x (R413): the stores through HL, and HALT at 76. -/
def costRow7 : List Cost :=
  [one 8, one 8, one 8, one 8, one 8, one 8, one 4, one 8, one 4, one 4, one 4, one 4, one 4, one 4, one 8, one 4]

/-- The rows Cx to Fx of R413. -/
def costRowsCF : List (List Cost) :=
  [[tn 20 8, one 12, tn 16 12, one 16, tn 24 12, one 16, one 8, one 16, tn 20 8, one 16, tn 16 12, noCost, tn 24 12,
    one 24, one 8, one 16],
   [tn 20 8, one 12, tn 16 12, noCost, tn 24 12, one 16, one 8, one 16, tn 20 8, one 16, tn 16 12, noCost, tn 24 12,
    noCost, one 8, one 16],
   [one 12, one 12, one 8, noCost, noCost, one 16, one 8, one 16, one 16, one 4, one 16, noCost, noCost, noCost, one 8,
    one 16],
   [one 12, one 12, one 8, one 4, noCost, one 16, one 8, one 16, one 12, one 8, one 16, one 4, noCost, noCost, one 8,
    one 16]]

/-- The 16 rows of R413. -/
def costRows : List (List Cost) :=
  costRows03 ++ [costRowReg, costRowReg, costRowReg, costRow7, costRowReg, costRowReg, costRowReg, costRowReg] ++ costRowsCF

/-- The base cost of a second byte (R414), before `CB_OVERHEAD`. -/
def cbBaseCost (op2 : Byte) : Nat :=
  if op2.toNat % 8 ≠ 6 then 4
  else if 0x40 ≤ op2.toNat ∧ op2.toNat < 0x80 then 8
  else 12

/-- The default table (R413, R414). -/
def defaultCost : Opcode → Cost
  | .base op => (costRows.getD (op.toNat / 16) []).getD (op.toNat % 16) noCost
  | .cb op2 => one (cbBaseCost op2)

/-- The entry of `CYCLE_COST` (R7, D34). -/
def cycleCost (cfg : Config) (op : Opcode) : Cost :=
  match cfg.costChanges.find? (fun r => decide (r.op = op)) with
  | some r => r.cost
  | none => defaultCost op

/-- `CB_OVERHEAD` for a prefixed opcode (R93, R414). -/
def prefixOverhead (cfg : Config) : Opcode → Nat
  | .base _ => 0
  | .cb _ => cfg.cbOverhead

/-- The cost of an instruction on the path taken (R398, R415). -/
def instrCost (cfg : Config) (op : Opcode) (taken : Bool) : Nat :=
  (if taken then (cycleCost cfg op).taken else (cycleCost cfg op).notTaken) + prefixOverhead cfg op

/-- The cost of an instruction without a condition, or of the taken path of one with a condition. -/
def State.cost (s : State) (op : Opcode) : Nat := instrCost s.cfg op true

/-- The cost of the path not taken (R415). -/
def State.costNotTaken (s : State) (op : Opcode) : Nat := instrCost s.cfg op false

end Sys2Proof.Machine
end

