-- ==== Sys2Proof/WellFormed.lean ====
section
/-! DEFINITION. Well-formed instructions. The types of the operand bytes `n` and `nn` already hold
exactly what the encoding admits; the one check left is the range of a signed displacement
(spec/30_encoding.md R102: "-128 to +127"). -/

namespace Sys2Proof

/-- The range of a displacement (R102). -/
def dispInRange (e : Int) : Bool := decide (-128 ≤ e) && decide (e ≤ 127)

/-- An instruction is well formed when its displacement, if it has one, is in range. -/
def Instr.wellFormed : Instr → Bool
  | .jr_e e | .jr_NZ_e e | .jr_Z_e e | .jr_NC_e e | .jr_C_e e => dispInRange e
  | .add_SP_e e | .ld_HL_SPe e => dispInRange e
  | _ => true

end Sys2Proof
end

