-- ==== Sys2Proof/Decode.lean ====
section
/-! DEFINITION. Decoding and encoding. The decoder reads the fields x, y, z, p, q of R92 and follows the
opcode map of R103 field by field. The encoder, after it, is the list of words of
spec/opcode_table.json, row by row. The two are written from different tables of the spec and meet in
the round trip. -/

namespace Sys2Proof

/-- The high byte of a word, `v[15:8]` (R8). -/
def hiByte (v : Word) : Byte := v.extractLsb' 8 8

/-- The low byte of a word, `v[7:0]` (R8). -/
def loByte (v : Word) : Byte := v.extractLsb' 0 8

/-- Concatenation `hi:lo` (R8, R67). -/
def joinBytes (hi lo : Byte) : Word := hi ++ lo

/-- The prefix byte (R93). -/
def prefixByte : Byte := 0xCB#8

/-! ## Fields and operand tables -/

/-- `x = op[7:6]` (R92). -/
def opX (op : Byte) : Nat := op.toNat / 64
/-- `y = op[5:3]` (R92). -/
def opY (op : Byte) : Nat := op.toNat / 8 % 8
/-- `z = op[2:0]` (R92). -/
def opZ (op : Byte) : Nat := op.toNat % 8
/-- `p = op[5:4]` (R92). -/
def opP (op : Byte) : Nat := op.toNat / 16 % 4
/-- `q = op[3]` (R92). -/
def opQ (op : Byte) : Nat := op.toNat / 8 % 2

/-- The operand field `r` (R95). -/
def srcOf : Nat → Src8
  | 0 => .reg .b
  | 1 => .reg .c
  | 2 => .reg .d
  | 3 => .reg .e
  | 4 => .reg .h
  | 5 => .reg .l
  | 6 => .mHL
  | _ => .reg .a

/-- The field `rr` (R96). -/
def reg16Of : Nat → Reg16
  | 0 => .bc
  | 1 => .de
  | 2 => .hl
  | _ => .sp

/-- The field `qq` (R97). -/
def stackRegOf : Nat → StackReg
  | 0 => .bc
  | 1 => .de
  | 2 => .hl
  | _ => .af

/-- The field `cc` (R98). -/
def condOf : Nat → Cond
  | 0 => .nz
  | 1 => .z
  | 2 => .nc
  | _ => .c

/-- The field `alu` (R99). -/
def aluOf : Nat → AluOp
  | 0 => .add
  | 1 => .adc
  | 2 => .sub
  | 3 => .sbc
  | 4 => .and
  | 5 => .xor
  | 6 => .or
  | _ => .cp

/-- The field `rot` (R100). -/
def rotOf : Nat → RotOp
  | 0 => .rlc
  | 1 => .rrc
  | 2 => .rl
  | 3 => .rr
  | 4 => .sla
  | 5 => .sra
  | 6 => .swap
  | _ => .srl

/-- The fields `b` and `t` (R101). -/
def bitOf (y : Nat) : Fin 8 := Fin.ofNat 8 y

/-- The displacement of an operand byte (R102). -/
def dispOf (n : Byte) : Int := n.toInt

/-! ## Lengths -/

/-- The first bytes of the `F2` instructions (R94). -/
def twoByteOps : List Nat :=
  [0x06, 0x0E, 0x10, 0x16, 0x18, 0x1E, 0x20, 0x26, 0x28, 0x2E, 0x30, 0x36, 0x38, 0x3E, 0xC6, 0xCE, 0xD6,
   0xDE, 0xE0, 0xE6, 0xE8, 0xEE, 0xF0, 0xF6, 0xF8, 0xFE]

/-- The first bytes of the `F3` instructions (R94). -/
def threeByteOps : List Nat :=
  [0x01, 0x08, 0x11, 0x21, 0x31, 0xC2, 0xC3, 0xC4, 0xCA, 0xCC, 0xCD, 0xD2, 0xD4, 0xDA, 0xDC, 0xEA, 0xFA]

/-- The length of an instruction from its first byte (R94); an undefined byte stands alone (R301). -/
def instrLength (op : Byte) : Nat :=
  if op = prefixByte then 2
  else if twoByteOps.contains op.toNat then 2
  else if threeByteOps.contains op.toNat then 3
  else 1

/-! ## The decoder -/

/-- Base table, x = 0 (R103). -/
def decodeX0 (op n hi : Byte) : Instr :=
  match opZ op, opY op with
  | 0, 0 => .nop
  | 0, 1 => .ld_mnn_SP (joinBytes hi n)
  | 0, 2 => .stop n
  | 0, 3 => .jr_e (dispOf n)
  | 0, y => Instr.jrCond (condOf (y - 4)) (dispOf n)
  | 1, _ => if opQ op = 0 then Instr.ldPairImm (reg16Of (opP op)) (joinBytes hi n) else Instr.addHl (reg16Of (opP op))
  | 2, 0 => .ld_mBC_A
  | 2, 1 => .ld_A_mBC
  | 2, 2 => .ld_mDE_A
  | 2, 3 => .ld_A_mDE
  | 2, 4 => .ld_mHLinc_A
  | 2, 5 => .ld_A_mHLinc
  | 2, 6 => .ld_mHLdec_A
  | 2, _ => .ld_A_mHLdec
  | 3, _ => if opQ op = 0 then Instr.inc16 (reg16Of (opP op)) else Instr.dec16 (reg16Of (opP op))
  | 4, y => Instr.inc8 (srcOf y)
  | 5, y => Instr.dec8 (srcOf y)
  | 6, y =>
    match srcOf y with
    | .reg r => Instr.ldRegImm r n
    | .mHL => .ld_mHL_n n
  | _, 0 => .rlca
  | _, 1 => .rrca
  | _, 2 => .rla
  | _, 3 => .rra
  | _, 4 => .daa
  | _, 5 => .cpl
  | _, 6 => .scf
  | _, _ => .ccf

/-- Base table, x = 1 (R103): the register moves, and HALT in the place of `LD (HL),(HL)`. -/
def decodeX1 (op : Byte) : Instr :=
  match srcOf (opY op), srcOf (opZ op) with
  | .reg dst, .reg r => Instr.ldReg dst r
  | .reg dst, .mHL => Instr.ldRegMem dst
  | .mHL, .reg r => Instr.ldMemReg r
  | .mHL, .mHL => .halt

/-- Base table, x = 3 (R103), but for the prefix. -/
def decodeX3 (op n hi : Byte) : Instr :=
  match opZ op, opY op with
  | 0, 4 => .ldh_ion_A n
  | 0, 5 => .add_SP_e (dispOf n)
  | 0, 6 => .ldh_A_ion n
  | 0, 7 => .ld_HL_SPe (dispOf n)
  | 0, y => Instr.retCond (condOf y)
  | 1, 1 => .ret
  | 1, 3 => .reti
  | 1, 5 => .jp_HL
  | 1, 7 => .ld_SP_HL
  | 1, _ => Instr.pop (stackRegOf (opP op))
  | 2, 4 => .ld_ioC_A
  | 2, 5 => .ld_mnn_A (joinBytes hi n)
  | 2, 6 => .ld_A_ioC
  | 2, 7 => .ld_A_mnn (joinBytes hi n)
  | 2, y => Instr.jpCond (condOf y) (joinBytes hi n)
  | 3, 0 => .jp_nn (joinBytes hi n)
  | 3, 2 => .undefined_D3
  | 3, 3 => .undefined_DB
  | 3, 4 => .undefined_E3
  | 3, 5 => .undefined_EB
  | 3, 6 => .di
  | 3, _ => .ei
  | 4, 4 => .undefined_E4
  | 4, 5 => .undefined_EC
  | 4, 6 => .undefined_F4
  | 4, 7 => .undefined_FC
  | 4, y => Instr.callCond (condOf y) (joinBytes hi n)
  | 5, 1 => .call_nn (joinBytes hi n)
  | 5, 3 => .undefined_DD
  | 5, 5 => .undefined_ED
  | 5, 7 => .undefined_FD
  | 5, _ => Instr.push (stackRegOf (opP op))
  | 6, y => Instr.aluImm (aluOf y) n
  | _, y => Instr.rst (bitOf y)

/-- The base table (R103): the instruction of a first byte other than the prefix, with the operand bytes
that follow it (`hi` matters only to a 3-byte instruction). -/
def decodeBase (op n hi : Byte) : Instr :=
  match opX op with
  | 0 => decodeX0 op n hi
  | 1 => decodeX1 op
  | 2 => Instr.alu (aluOf (opY op)) (srcOf (opZ op))
  | _ => decodeX3 op n hi

/-- The secondary table (R103), after the prefix: all 256 values are defined. -/
def decodeCb (op2 : Byte) : Instr :=
  match opX op2 with
  | 0 => Instr.rot (rotOf (opY op2)) (srcOf (opZ op2))
  | 1 => Instr.bit (bitOf (opY op2)) (srcOf (opZ op2))
  | 2 => Instr.res (bitOf (opY op2)) (srcOf (opZ op2))
  | _ => Instr.set (bitOf (opY op2)) (srcOf (opZ op2))

/-- Why a list of bytes is no instruction: it ends before the instruction does. -/
inductive DecodeReject where
  | truncated
  deriving DecidableEq, Repr

/-- The instruction at the front of a list of bytes, and the rest of the list. Every first byte has a row
(an undefined byte decodes to its own row, whose meaning is `DecodeError`, R301), so the only rejection
is a list that is too short. -/
def decode : List Byte → Except DecodeReject (Instr × List Byte)
  | [] => .error .truncated
  | op :: rest =>
    if op = prefixByte then
      match rest with
      | op2 :: rest' => .ok (decodeCb op2, rest')
      | [] => .error .truncated
    else
      match instrLength op, rest with
      | 3, n :: hi :: rest' => .ok (decodeBase op n hi, rest')
      | 3, _ => .error .truncated
      | 2, n :: rest' => .ok (decodeBase op n 0, rest')
      | 2, [] => .error .truncated
      | _, rest' => .ok (decodeBase op 0 0, rest')

/-- The opcodes of rule R104, which §4.5 or §8 of the source names; every other row is general knowledge
(`"basis"` in spec/opcode_table.json). -/
def sourceNamed : Opcode → Bool
  | .cb op2 =>
    match opX op2 with
    | 0 => opY op2 == 2
    | 1 => true
    | _ => false
  | .base op =>
    match opX op, opZ op, opY op with
    | 0, 0, y => y == 3 || y == 4 || y == 5
    | 0, 1, _ => opQ op == 0
    | 0, 3, _ => false
    | 0, 7, y => y == 2
    | 0, _, _ => true
    | 1, 6, 6 => false
    | 1, _, _ => true
    | 2, _, y => y == 5 || y == 7
    | _, 0, y => y == 4 || y == 6
    | _, 1, y => opQ op == 0 || y == 1
    | _, 2, y => y == 4 || y == 6
    | _, 3, y => y == 0 || y == 6
    | _, 5, y => opQ op == 0 || y == 1
    | _, 6, y => y == 5 || y == 7
    | _, 7, _ => true
    | _, _, _ => false

/-! ## The encoder -/

/-- The operand byte of a displacement (R102). -/
def dispByte (e : Int) : Byte := BitVec.ofInt 8 e

/-- The bytes of an instruction, from the `encoding` column of spec/opcode_table.json. -/
def encode : Instr → List Byte
  | .nop => [0x00#8]
  | .ld_BC_nn nn => [0x01#8, loByte nn, hiByte nn]
  | .ld_mBC_A => [0x02#8]
  | .inc_BC => [0x03#8]
  | .inc_B => [0x04#8]
  | .dec_B => [0x05#8]
  | .ld_B_n n => [0x06#8, n]
  | .rlca => [0x07#8]
  | .ld_mnn_SP nn => [0x08#8, loByte nn, hiByte nn]
  | .add_HL_BC => [0x09#8]
  | .ld_A_mBC => [0x0A#8]
  | .dec_BC => [0x0B#8]
  | .inc_C => [0x0C#8]
  | .dec_C => [0x0D#8]
  | .ld_C_n n => [0x0E#8, n]
  | .rrca => [0x0F#8]
  | .stop n => [0x10#8, n]
  | .ld_DE_nn nn => [0x11#8, loByte nn, hiByte nn]
  | .ld_mDE_A => [0x12#8]
  | .inc_DE => [0x13#8]
  | .inc_D => [0x14#8]
  | .dec_D => [0x15#8]
  | .ld_D_n n => [0x16#8, n]
  | .rla => [0x17#8]
  | .jr_e e => [0x18#8, dispByte e]
  | .add_HL_DE => [0x19#8]
  | .ld_A_mDE => [0x1A#8]
  | .dec_DE => [0x1B#8]
  | .inc_E => [0x1C#8]
  | .dec_E => [0x1D#8]
  | .ld_E_n n => [0x1E#8, n]
  | .rra => [0x1F#8]
  | .jr_NZ_e e => [0x20#8, dispByte e]
  | .ld_HL_nn nn => [0x21#8, loByte nn, hiByte nn]
  | .ld_mHLinc_A => [0x22#8]
  | .inc_HL => [0x23#8]
  | .inc_H => [0x24#8]
  | .dec_H => [0x25#8]
  | .ld_H_n n => [0x26#8, n]
  | .daa => [0x27#8]
  | .jr_Z_e e => [0x28#8, dispByte e]
  | .add_HL_HL => [0x29#8]
  | .ld_A_mHLinc => [0x2A#8]
  | .dec_HL => [0x2B#8]
  | .inc_L => [0x2C#8]
  | .dec_L => [0x2D#8]
  | .ld_L_n n => [0x2E#8, n]
  | .cpl => [0x2F#8]
  | .jr_NC_e e => [0x30#8, dispByte e]
  | .ld_SP_nn nn => [0x31#8, loByte nn, hiByte nn]
  | .ld_mHLdec_A => [0x32#8]
  | .inc_SP => [0x33#8]
  | .inc_mHL => [0x34#8]
  | .dec_mHL => [0x35#8]
  | .ld_mHL_n n => [0x36#8, n]
  | .scf => [0x37#8]
  | .jr_C_e e => [0x38#8, dispByte e]
  | .add_HL_SP => [0x39#8]
  | .ld_A_mHLdec => [0x3A#8]
  | .dec_SP => [0x3B#8]
  | .inc_A => [0x3C#8]
  | .dec_A => [0x3D#8]
  | .ld_A_n n => [0x3E#8, n]
  | .ccf => [0x3F#8]
  | .ld_B_B => [0x40#8]
  | .ld_B_C => [0x41#8]
  | .ld_B_D => [0x42#8]
  | .ld_B_E => [0x43#8]
  | .ld_B_H => [0x44#8]
  | .ld_B_L => [0x45#8]
  | .ld_B_mHL => [0x46#8]
  | .ld_B_A => [0x47#8]
  | .ld_C_B => [0x48#8]
  | .ld_C_C => [0x49#8]
  | .ld_C_D => [0x4A#8]
  | .ld_C_E => [0x4B#8]
  | .ld_C_H => [0x4C#8]
  | .ld_C_L => [0x4D#8]
  | .ld_C_mHL => [0x4E#8]
  | .ld_C_A => [0x4F#8]
  | .ld_D_B => [0x50#8]
  | .ld_D_C => [0x51#8]
  | .ld_D_D => [0x52#8]
  | .ld_D_E => [0x53#8]
  | .ld_D_H => [0x54#8]
  | .ld_D_L => [0x55#8]
  | .ld_D_mHL => [0x56#8]
  | .ld_D_A => [0x57#8]
  | .ld_E_B => [0x58#8]
  | .ld_E_C => [0x59#8]
  | .ld_E_D => [0x5A#8]
  | .ld_E_E => [0x5B#8]
  | .ld_E_H => [0x5C#8]
  | .ld_E_L => [0x5D#8]
  | .ld_E_mHL => [0x5E#8]
  | .ld_E_A => [0x5F#8]
  | .ld_H_B => [0x60#8]
  | .ld_H_C => [0x61#8]
  | .ld_H_D => [0x62#8]
  | .ld_H_E => [0x63#8]
  | .ld_H_H => [0x64#8]
  | .ld_H_L => [0x65#8]
  | .ld_H_mHL => [0x66#8]
  | .ld_H_A => [0x67#8]
  | .ld_L_B => [0x68#8]
  | .ld_L_C => [0x69#8]
  | .ld_L_D => [0x6A#8]
  | .ld_L_E => [0x6B#8]
  | .ld_L_H => [0x6C#8]
  | .ld_L_L => [0x6D#8]
  | .ld_L_mHL => [0x6E#8]
  | .ld_L_A => [0x6F#8]
  | .ld_mHL_B => [0x70#8]
  | .ld_mHL_C => [0x71#8]
  | .ld_mHL_D => [0x72#8]
  | .ld_mHL_E => [0x73#8]
  | .ld_mHL_H => [0x74#8]
  | .ld_mHL_L => [0x75#8]
  | .halt => [0x76#8]
  | .ld_mHL_A => [0x77#8]
  | .ld_A_B => [0x78#8]
  | .ld_A_C => [0x79#8]
  | .ld_A_D => [0x7A#8]
  | .ld_A_E => [0x7B#8]
  | .ld_A_H => [0x7C#8]
  | .ld_A_L => [0x7D#8]
  | .ld_A_mHL => [0x7E#8]
  | .ld_A_A => [0x7F#8]
  | .add_A_B => [0x80#8]
  | .add_A_C => [0x81#8]
  | .add_A_D => [0x82#8]
  | .add_A_E => [0x83#8]
  | .add_A_H => [0x84#8]
  | .add_A_L => [0x85#8]
  | .add_A_mHL => [0x86#8]
  | .add_A_A => [0x87#8]
  | .adc_A_B => [0x88#8]
  | .adc_A_C => [0x89#8]
  | .adc_A_D => [0x8A#8]
  | .adc_A_E => [0x8B#8]
  | .adc_A_H => [0x8C#8]
  | .adc_A_L => [0x8D#8]
  | .adc_A_mHL => [0x8E#8]
  | .adc_A_A => [0x8F#8]
  | .sub_B => [0x90#8]
  | .sub_C => [0x91#8]
  | .sub_D => [0x92#8]
  | .sub_E => [0x93#8]
  | .sub_H => [0x94#8]
  | .sub_L => [0x95#8]
  | .sub_mHL => [0x96#8]
  | .sub_A => [0x97#8]
  | .sbc_A_B => [0x98#8]
  | .sbc_A_C => [0x99#8]
  | .sbc_A_D => [0x9A#8]
  | .sbc_A_E => [0x9B#8]
  | .sbc_A_H => [0x9C#8]
  | .sbc_A_L => [0x9D#8]
  | .sbc_A_mHL => [0x9E#8]
  | .sbc_A_A => [0x9F#8]
  | .and_B => [0xA0#8]
  | .and_C => [0xA1#8]
  | .and_D => [0xA2#8]
  | .and_E => [0xA3#8]
  | .and_H => [0xA4#8]
  | .and_L => [0xA5#8]
  | .and_mHL => [0xA6#8]
  | .and_A => [0xA7#8]
  | .xor_B => [0xA8#8]
  | .xor_C => [0xA9#8]
  | .xor_D => [0xAA#8]
  | .xor_E => [0xAB#8]
  | .xor_H => [0xAC#8]
  | .xor_L => [0xAD#8]
  | .xor_mHL => [0xAE#8]
  | .xor_A => [0xAF#8]
  | .or_B => [0xB0#8]
  | .or_C => [0xB1#8]
  | .or_D => [0xB2#8]
  | .or_E => [0xB3#8]
  | .or_H => [0xB4#8]
  | .or_L => [0xB5#8]
  | .or_mHL => [0xB6#8]
  | .or_A => [0xB7#8]
  | .cp_B => [0xB8#8]
  | .cp_C => [0xB9#8]
  | .cp_D => [0xBA#8]
  | .cp_E => [0xBB#8]
  | .cp_H => [0xBC#8]
  | .cp_L => [0xBD#8]
  | .cp_mHL => [0xBE#8]
  | .cp_A => [0xBF#8]
  | .ret_NZ => [0xC0#8]
  | .pop_BC => [0xC1#8]
  | .jp_NZ_nn nn => [0xC2#8, loByte nn, hiByte nn]
  | .jp_nn nn => [0xC3#8, loByte nn, hiByte nn]
  | .call_NZ_nn nn => [0xC4#8, loByte nn, hiByte nn]
  | .push_BC => [0xC5#8]
  | .add_A_n n => [0xC6#8, n]
  | .rst_00H => [0xC7#8]
  | .ret_Z => [0xC8#8]
  | .ret => [0xC9#8]
  | .jp_Z_nn nn => [0xCA#8, loByte nn, hiByte nn]
  | .call_Z_nn nn => [0xCC#8, loByte nn, hiByte nn]
  | .call_nn nn => [0xCD#8, loByte nn, hiByte nn]
  | .adc_A_n n => [0xCE#8, n]
  | .rst_08H => [0xCF#8]
  | .ret_NC => [0xD0#8]
  | .pop_DE => [0xD1#8]
  | .jp_NC_nn nn => [0xD2#8, loByte nn, hiByte nn]
  | .undefined_D3 => [0xD3#8]
  | .call_NC_nn nn => [0xD4#8, loByte nn, hiByte nn]
  | .push_DE => [0xD5#8]
  | .sub_n n => [0xD6#8, n]
  | .rst_10H => [0xD7#8]
  | .ret_C => [0xD8#8]
  | .reti => [0xD9#8]
  | .jp_C_nn nn => [0xDA#8, loByte nn, hiByte nn]
  | .undefined_DB => [0xDB#8]
  | .call_C_nn nn => [0xDC#8, loByte nn, hiByte nn]
  | .undefined_DD => [0xDD#8]
  | .sbc_A_n n => [0xDE#8, n]
  | .rst_18H => [0xDF#8]
  | .ldh_ion_A n => [0xE0#8, n]
  | .pop_HL => [0xE1#8]
  | .ld_ioC_A => [0xE2#8]
  | .undefined_E3 => [0xE3#8]
  | .undefined_E4 => [0xE4#8]
  | .push_HL => [0xE5#8]
  | .and_n n => [0xE6#8, n]
  | .rst_20H => [0xE7#8]
  | .add_SP_e e => [0xE8#8, dispByte e]
  | .jp_HL => [0xE9#8]
  | .ld_mnn_A nn => [0xEA#8, loByte nn, hiByte nn]
  | .undefined_EB => [0xEB#8]
  | .undefined_EC => [0xEC#8]
  | .undefined_ED => [0xED#8]
  | .xor_n n => [0xEE#8, n]
  | .rst_28H => [0xEF#8]
  | .ldh_A_ion n => [0xF0#8, n]
  | .pop_AF => [0xF1#8]
  | .ld_A_ioC => [0xF2#8]
  | .di => [0xF3#8]
  | .undefined_F4 => [0xF4#8]
  | .push_AF => [0xF5#8]
  | .or_n n => [0xF6#8, n]
  | .rst_30H => [0xF7#8]
  | .ld_HL_SPe e => [0xF8#8, dispByte e]
  | .ld_SP_HL => [0xF9#8]
  | .ld_A_mnn nn => [0xFA#8, loByte nn, hiByte nn]
  | .ei => [0xFB#8]
  | .undefined_FC => [0xFC#8]
  | .undefined_FD => [0xFD#8]
  | .cp_n n => [0xFE#8, n]
  | .rst_38H => [0xFF#8]
  | .rlc_B => [0xCB#8, 0x00#8]
  | .rlc_C => [0xCB#8, 0x01#8]
  | .rlc_D => [0xCB#8, 0x02#8]
  | .rlc_E => [0xCB#8, 0x03#8]
  | .rlc_H => [0xCB#8, 0x04#8]
  | .rlc_L => [0xCB#8, 0x05#8]
  | .rlc_mHL => [0xCB#8, 0x06#8]
  | .rlc_A => [0xCB#8, 0x07#8]
  | .rrc_B => [0xCB#8, 0x08#8]
  | .rrc_C => [0xCB#8, 0x09#8]
  | .rrc_D => [0xCB#8, 0x0A#8]
  | .rrc_E => [0xCB#8, 0x0B#8]
  | .rrc_H => [0xCB#8, 0x0C#8]
  | .rrc_L => [0xCB#8, 0x0D#8]
  | .rrc_mHL => [0xCB#8, 0x0E#8]
  | .rrc_A => [0xCB#8, 0x0F#8]
  | .rl_B => [0xCB#8, 0x10#8]
  | .rl_C => [0xCB#8, 0x11#8]
  | .rl_D => [0xCB#8, 0x12#8]
  | .rl_E => [0xCB#8, 0x13#8]
  | .rl_H => [0xCB#8, 0x14#8]
  | .rl_L => [0xCB#8, 0x15#8]
  | .rl_mHL => [0xCB#8, 0x16#8]
  | .rl_A => [0xCB#8, 0x17#8]
  | .rr_B => [0xCB#8, 0x18#8]
  | .rr_C => [0xCB#8, 0x19#8]
  | .rr_D => [0xCB#8, 0x1A#8]
  | .rr_E => [0xCB#8, 0x1B#8]
  | .rr_H => [0xCB#8, 0x1C#8]
  | .rr_L => [0xCB#8, 0x1D#8]
  | .rr_mHL => [0xCB#8, 0x1E#8]
  | .rr_A => [0xCB#8, 0x1F#8]
  | .sla_B => [0xCB#8, 0x20#8]
  | .sla_C => [0xCB#8, 0x21#8]
  | .sla_D => [0xCB#8, 0x22#8]
  | .sla_E => [0xCB#8, 0x23#8]
  | .sla_H => [0xCB#8, 0x24#8]
  | .sla_L => [0xCB#8, 0x25#8]
  | .sla_mHL => [0xCB#8, 0x26#8]
  | .sla_A => [0xCB#8, 0x27#8]
  | .sra_B => [0xCB#8, 0x28#8]
  | .sra_C => [0xCB#8, 0x29#8]
  | .sra_D => [0xCB#8, 0x2A#8]
  | .sra_E => [0xCB#8, 0x2B#8]
  | .sra_H => [0xCB#8, 0x2C#8]
  | .sra_L => [0xCB#8, 0x2D#8]
  | .sra_mHL => [0xCB#8, 0x2E#8]
  | .sra_A => [0xCB#8, 0x2F#8]
  | .swap_B => [0xCB#8, 0x30#8]
  | .swap_C => [0xCB#8, 0x31#8]
  | .swap_D => [0xCB#8, 0x32#8]
  | .swap_E => [0xCB#8, 0x33#8]
  | .swap_H => [0xCB#8, 0x34#8]
  | .swap_L => [0xCB#8, 0x35#8]
  | .swap_mHL => [0xCB#8, 0x36#8]
  | .swap_A => [0xCB#8, 0x37#8]
  | .srl_B => [0xCB#8, 0x38#8]
  | .srl_C => [0xCB#8, 0x39#8]
  | .srl_D => [0xCB#8, 0x3A#8]
  | .srl_E => [0xCB#8, 0x3B#8]
  | .srl_H => [0xCB#8, 0x3C#8]
  | .srl_L => [0xCB#8, 0x3D#8]
  | .srl_mHL => [0xCB#8, 0x3E#8]
  | .srl_A => [0xCB#8, 0x3F#8]
  | .bit_0_B => [0xCB#8, 0x40#8]
  | .bit_0_C => [0xCB#8, 0x41#8]
  | .bit_0_D => [0xCB#8, 0x42#8]
  | .bit_0_E => [0xCB#8, 0x43#8]
  | .bit_0_H => [0xCB#8, 0x44#8]
  | .bit_0_L => [0xCB#8, 0x45#8]
  | .bit_0_mHL => [0xCB#8, 0x46#8]
  | .bit_0_A => [0xCB#8, 0x47#8]
  | .bit_1_B => [0xCB#8, 0x48#8]
  | .bit_1_C => [0xCB#8, 0x49#8]
  | .bit_1_D => [0xCB#8, 0x4A#8]
  | .bit_1_E => [0xCB#8, 0x4B#8]
  | .bit_1_H => [0xCB#8, 0x4C#8]
  | .bit_1_L => [0xCB#8, 0x4D#8]
  | .bit_1_mHL => [0xCB#8, 0x4E#8]
  | .bit_1_A => [0xCB#8, 0x4F#8]
  | .bit_2_B => [0xCB#8, 0x50#8]
  | .bit_2_C => [0xCB#8, 0x51#8]
  | .bit_2_D => [0xCB#8, 0x52#8]
  | .bit_2_E => [0xCB#8, 0x53#8]
  | .bit_2_H => [0xCB#8, 0x54#8]
  | .bit_2_L => [0xCB#8, 0x55#8]
  | .bit_2_mHL => [0xCB#8, 0x56#8]
  | .bit_2_A => [0xCB#8, 0x57#8]
  | .bit_3_B => [0xCB#8, 0x58#8]
  | .bit_3_C => [0xCB#8, 0x59#8]
  | .bit_3_D => [0xCB#8, 0x5A#8]
  | .bit_3_E => [0xCB#8, 0x5B#8]
  | .bit_3_H => [0xCB#8, 0x5C#8]
  | .bit_3_L => [0xCB#8, 0x5D#8]
  | .bit_3_mHL => [0xCB#8, 0x5E#8]
  | .bit_3_A => [0xCB#8, 0x5F#8]
  | .bit_4_B => [0xCB#8, 0x60#8]
  | .bit_4_C => [0xCB#8, 0x61#8]
  | .bit_4_D => [0xCB#8, 0x62#8]
  | .bit_4_E => [0xCB#8, 0x63#8]
  | .bit_4_H => [0xCB#8, 0x64#8]
  | .bit_4_L => [0xCB#8, 0x65#8]
  | .bit_4_mHL => [0xCB#8, 0x66#8]
  | .bit_4_A => [0xCB#8, 0x67#8]
  | .bit_5_B => [0xCB#8, 0x68#8]
  | .bit_5_C => [0xCB#8, 0x69#8]
  | .bit_5_D => [0xCB#8, 0x6A#8]
  | .bit_5_E => [0xCB#8, 0x6B#8]
  | .bit_5_H => [0xCB#8, 0x6C#8]
  | .bit_5_L => [0xCB#8, 0x6D#8]
  | .bit_5_mHL => [0xCB#8, 0x6E#8]
  | .bit_5_A => [0xCB#8, 0x6F#8]
  | .bit_6_B => [0xCB#8, 0x70#8]
  | .bit_6_C => [0xCB#8, 0x71#8]
  | .bit_6_D => [0xCB#8, 0x72#8]
  | .bit_6_E => [0xCB#8, 0x73#8]
  | .bit_6_H => [0xCB#8, 0x74#8]
  | .bit_6_L => [0xCB#8, 0x75#8]
  | .bit_6_mHL => [0xCB#8, 0x76#8]
  | .bit_6_A => [0xCB#8, 0x77#8]
  | .bit_7_B => [0xCB#8, 0x78#8]
  | .bit_7_C => [0xCB#8, 0x79#8]
  | .bit_7_D => [0xCB#8, 0x7A#8]
  | .bit_7_E => [0xCB#8, 0x7B#8]
  | .bit_7_H => [0xCB#8, 0x7C#8]
  | .bit_7_L => [0xCB#8, 0x7D#8]
  | .bit_7_mHL => [0xCB#8, 0x7E#8]
  | .bit_7_A => [0xCB#8, 0x7F#8]
  | .res_0_B => [0xCB#8, 0x80#8]
  | .res_0_C => [0xCB#8, 0x81#8]
  | .res_0_D => [0xCB#8, 0x82#8]
  | .res_0_E => [0xCB#8, 0x83#8]
  | .res_0_H => [0xCB#8, 0x84#8]
  | .res_0_L => [0xCB#8, 0x85#8]
  | .res_0_mHL => [0xCB#8, 0x86#8]
  | .res_0_A => [0xCB#8, 0x87#8]
  | .res_1_B => [0xCB#8, 0x88#8]
  | .res_1_C => [0xCB#8, 0x89#8]
  | .res_1_D => [0xCB#8, 0x8A#8]
  | .res_1_E => [0xCB#8, 0x8B#8]
  | .res_1_H => [0xCB#8, 0x8C#8]
  | .res_1_L => [0xCB#8, 0x8D#8]
  | .res_1_mHL => [0xCB#8, 0x8E#8]
  | .res_1_A => [0xCB#8, 0x8F#8]
  | .res_2_B => [0xCB#8, 0x90#8]
  | .res_2_C => [0xCB#8, 0x91#8]
  | .res_2_D => [0xCB#8, 0x92#8]
  | .res_2_E => [0xCB#8, 0x93#8]
  | .res_2_H => [0xCB#8, 0x94#8]
  | .res_2_L => [0xCB#8, 0x95#8]
  | .res_2_mHL => [0xCB#8, 0x96#8]
  | .res_2_A => [0xCB#8, 0x97#8]
  | .res_3_B => [0xCB#8, 0x98#8]
  | .res_3_C => [0xCB#8, 0x99#8]
  | .res_3_D => [0xCB#8, 0x9A#8]
  | .res_3_E => [0xCB#8, 0x9B#8]
  | .res_3_H => [0xCB#8, 0x9C#8]
  | .res_3_L => [0xCB#8, 0x9D#8]
  | .res_3_mHL => [0xCB#8, 0x9E#8]
  | .res_3_A => [0xCB#8, 0x9F#8]
  | .res_4_B => [0xCB#8, 0xA0#8]
  | .res_4_C => [0xCB#8, 0xA1#8]
  | .res_4_D => [0xCB#8, 0xA2#8]
  | .res_4_E => [0xCB#8, 0xA3#8]
  | .res_4_H => [0xCB#8, 0xA4#8]
  | .res_4_L => [0xCB#8, 0xA5#8]
  | .res_4_mHL => [0xCB#8, 0xA6#8]
  | .res_4_A => [0xCB#8, 0xA7#8]
  | .res_5_B => [0xCB#8, 0xA8#8]
  | .res_5_C => [0xCB#8, 0xA9#8]
  | .res_5_D => [0xCB#8, 0xAA#8]
  | .res_5_E => [0xCB#8, 0xAB#8]
  | .res_5_H => [0xCB#8, 0xAC#8]
  | .res_5_L => [0xCB#8, 0xAD#8]
  | .res_5_mHL => [0xCB#8, 0xAE#8]
  | .res_5_A => [0xCB#8, 0xAF#8]
  | .res_6_B => [0xCB#8, 0xB0#8]
  | .res_6_C => [0xCB#8, 0xB1#8]
  | .res_6_D => [0xCB#8, 0xB2#8]
  | .res_6_E => [0xCB#8, 0xB3#8]
  | .res_6_H => [0xCB#8, 0xB4#8]
  | .res_6_L => [0xCB#8, 0xB5#8]
  | .res_6_mHL => [0xCB#8, 0xB6#8]
  | .res_6_A => [0xCB#8, 0xB7#8]
  | .res_7_B => [0xCB#8, 0xB8#8]
  | .res_7_C => [0xCB#8, 0xB9#8]
  | .res_7_D => [0xCB#8, 0xBA#8]
  | .res_7_E => [0xCB#8, 0xBB#8]
  | .res_7_H => [0xCB#8, 0xBC#8]
  | .res_7_L => [0xCB#8, 0xBD#8]
  | .res_7_mHL => [0xCB#8, 0xBE#8]
  | .res_7_A => [0xCB#8, 0xBF#8]
  | .set_0_B => [0xCB#8, 0xC0#8]
  | .set_0_C => [0xCB#8, 0xC1#8]
  | .set_0_D => [0xCB#8, 0xC2#8]
  | .set_0_E => [0xCB#8, 0xC3#8]
  | .set_0_H => [0xCB#8, 0xC4#8]
  | .set_0_L => [0xCB#8, 0xC5#8]
  | .set_0_mHL => [0xCB#8, 0xC6#8]
  | .set_0_A => [0xCB#8, 0xC7#8]
  | .set_1_B => [0xCB#8, 0xC8#8]
  | .set_1_C => [0xCB#8, 0xC9#8]
  | .set_1_D => [0xCB#8, 0xCA#8]
  | .set_1_E => [0xCB#8, 0xCB#8]
  | .set_1_H => [0xCB#8, 0xCC#8]
  | .set_1_L => [0xCB#8, 0xCD#8]
  | .set_1_mHL => [0xCB#8, 0xCE#8]
  | .set_1_A => [0xCB#8, 0xCF#8]
  | .set_2_B => [0xCB#8, 0xD0#8]
  | .set_2_C => [0xCB#8, 0xD1#8]
  | .set_2_D => [0xCB#8, 0xD2#8]
  | .set_2_E => [0xCB#8, 0xD3#8]
  | .set_2_H => [0xCB#8, 0xD4#8]
  | .set_2_L => [0xCB#8, 0xD5#8]
  | .set_2_mHL => [0xCB#8, 0xD6#8]
  | .set_2_A => [0xCB#8, 0xD7#8]
  | .set_3_B => [0xCB#8, 0xD8#8]
  | .set_3_C => [0xCB#8, 0xD9#8]
  | .set_3_D => [0xCB#8, 0xDA#8]
  | .set_3_E => [0xCB#8, 0xDB#8]
  | .set_3_H => [0xCB#8, 0xDC#8]
  | .set_3_L => [0xCB#8, 0xDD#8]
  | .set_3_mHL => [0xCB#8, 0xDE#8]
  | .set_3_A => [0xCB#8, 0xDF#8]
  | .set_4_B => [0xCB#8, 0xE0#8]
  | .set_4_C => [0xCB#8, 0xE1#8]
  | .set_4_D => [0xCB#8, 0xE2#8]
  | .set_4_E => [0xCB#8, 0xE3#8]
  | .set_4_H => [0xCB#8, 0xE4#8]
  | .set_4_L => [0xCB#8, 0xE5#8]
  | .set_4_mHL => [0xCB#8, 0xE6#8]
  | .set_4_A => [0xCB#8, 0xE7#8]
  | .set_5_B => [0xCB#8, 0xE8#8]
  | .set_5_C => [0xCB#8, 0xE9#8]
  | .set_5_D => [0xCB#8, 0xEA#8]
  | .set_5_E => [0xCB#8, 0xEB#8]
  | .set_5_H => [0xCB#8, 0xEC#8]
  | .set_5_L => [0xCB#8, 0xED#8]
  | .set_5_mHL => [0xCB#8, 0xEE#8]
  | .set_5_A => [0xCB#8, 0xEF#8]
  | .set_6_B => [0xCB#8, 0xF0#8]
  | .set_6_C => [0xCB#8, 0xF1#8]
  | .set_6_D => [0xCB#8, 0xF2#8]
  | .set_6_E => [0xCB#8, 0xF3#8]
  | .set_6_H => [0xCB#8, 0xF4#8]
  | .set_6_L => [0xCB#8, 0xF5#8]
  | .set_6_mHL => [0xCB#8, 0xF6#8]
  | .set_6_A => [0xCB#8, 0xF7#8]
  | .set_7_B => [0xCB#8, 0xF8#8]
  | .set_7_C => [0xCB#8, 0xF9#8]
  | .set_7_D => [0xCB#8, 0xFA#8]
  | .set_7_E => [0xCB#8, 0xFB#8]
  | .set_7_H => [0xCB#8, 0xFC#8]
  | .set_7_L => [0xCB#8, 0xFD#8]
  | .set_7_mHL => [0xCB#8, 0xFE#8]
  | .set_7_A => [0xCB#8, 0xFF#8]

/-- The dispatch-table entry of an instruction: its opcode byte, or the byte after the prefix. -/
def Instr.opcode (i : Instr) : Opcode :=
  match encode i with
  | op :: rest =>
    if op = prefixByte then
      match rest with
      | op2 :: _ => .cb op2
      | [] => .base op
    else .base op
  | [] => .base 0#8

/-- The length of an instruction in bytes (R91). -/
def Instr.length (i : Instr) : Nat := (encode i).length

/-! ## Table words -/

/-- The three leading bytes of the instruction whose bits are `w`, numbered as spec/opcode_table.json
numbers them. Bits 7..0 are the first byte and the bits above `nbits` are 0, but for a two-byte row of the
prefixed table: there the table's own number has the prefix in bits 15..8 (R112: "with the first byte most
significant"; log 7). -/
def tableBytes (nbits w : Nat) : List Byte :=
  let v := w % 2 ^ nbits
  if nbits = 16 ∧ v / 256 = 0xCB then [prefixByte, BitVec.ofNat 8 v, 0#8]
  else [BitVec.ofNat 8 v, BitVec.ofNat 8 (v / 256), BitVec.ofNat 8 (v / 65536)]

/-- What the decoder reads from an instruction whose bits are `w` (the host's interface). -/
def decodeTableWord (nbits w : Nat) : Option Instr :=
  match decode (tableBytes nbits w) with
  | .ok (i, _) => some i
  | .error _ => none

end Sys2Proof
end

