-- ==== Sys2Proof/Machine/Operands.lean ====
section
/-! DEFINITION. Reading and writing the registers: the one place that knows the views of spec/10_state.md
R22 to R24 and the operand tables of spec/30_encoding.md R95 to R98. -/

namespace Sys2Proof.Machine

/-- `b2n` (R8) as a byte. -/
def bitByte (f : Bool) : Byte := if f then 1#8 else 0#8

/-- F, synthesized from the flags (R22). -/
def RegFile.f (g : RegFile) : Byte :=
  bitByte g.zf <<< 7 ||| bitByte g.nf <<< 6 ||| bitByte g.hf <<< 5 ||| bitByte g.cf <<< 4

/-- The view BC (R23). -/
def RegFile.bc (g : RegFile) : Word := joinBytes g.b g.c
/-- The view DE (R23). -/
def RegFile.de (g : RegFile) : Word := joinBytes g.d g.e
/-- The view HL (R23). -/
def RegFile.hl (g : RegFile) : Word := joinBytes g.h g.l
/-- The view AF (R24). -/
def RegFile.af (g : RegFile) : Word := joinBytes g.a g.f

/-- `x[r]` (R9, R95). -/
def RegFile.get8 (g : RegFile) : Reg8 → Byte
  | .b => g.b
  | .c => g.c
  | .d => g.d
  | .e => g.e
  | .h => g.h
  | .l => g.l
  | .a => g.a

/-- `x[r] <- v` (R9, R21). -/
def RegFile.set8 (g : RegFile) (r : Reg8) (v : Byte) : RegFile :=
  match r with
  | .b => { g with b := v }
  | .c => { g with c := v }
  | .d => { g with d := v }
  | .e => { g with e := v }
  | .h => { g with h := v }
  | .l => { g with l := v }
  | .a => { g with a := v }

/-- `x[rr]` (R96). -/
def RegFile.get16 (g : RegFile) : Reg16 → Word
  | .bc => g.bc
  | .de => g.de
  | .hl => g.hl
  | .sp => g.sp

/-- `x[rr] <- v` (R23, R96). -/
def RegFile.set16 (g : RegFile) (r : Reg16) (v : Word) : RegFile :=
  match r with
  | .bc => { g with b := hiByte v, c := loByte v }
  | .de => { g with d := hiByte v, e := loByte v }
  | .hl => { g with h := hiByte v, l := loByte v }
  | .sp => { g with sp := v }

/-- `x[qq]` (R97). -/
def RegFile.getStack (g : RegFile) : StackReg → Word
  | .bc => g.bc
  | .de => g.de
  | .hl => g.hl
  | .af => g.af

/-- `x[qq] <- v`; for AF the low nibble is discarded (R24, R97). -/
def RegFile.setStack (g : RegFile) (q : StackReg) (v : Word) : RegFile :=
  match q with
  | .bc => { g with b := hiByte v, c := loByte v }
  | .de => { g with d := hiByte v, e := loByte v }
  | .hl => { g with h := hiByte v, l := loByte v }
  | .af => { g with a := hiByte v, zf := v.getLsbD 7, nf := v.getLsbD 6, hf := v.getLsbD 5, cf := v.getLsbD 4 }

/-- All four flags at once (R25). -/
def RegFile.setFlags (g : RegFile) (z n h c : Bool) : RegFile := { g with zf := z, nf := n, hf := h, cf := c }

/-- The condition of a conditional instruction, on the flags before it (R270). -/
def RegFile.cond (g : RegFile) : Cond → Bool
  | .nz => !g.zf
  | .z => g.zf
  | .nc => !g.cf
  | .c => g.cf

/-- The fast-I/O address `0xFF00 + zext_16(k)` (R132). -/
def ioAddr (k : Byte) : Word := 0xFF00#16 + k.zeroExtend 16

/-- `sext_16(e)` of a displacement (R102). -/
def dispWord (e : Int) : Word := BitVec.ofInt 16 e

/-- The state with another register file. -/
def State.mapRegs (s : State) (f : RegFile → RegFile) : State := { s with regs := f s.regs }

/-- `x[r] <- v` on the state. -/
def State.set8 (s : State) (r : Reg8) (v : Byte) : State := s.mapRegs (·.set8 r v)
/-- `x[rr] <- v` on the state. -/
def State.set16 (s : State) (r : Reg16) (v : Word) : State := s.mapRegs (·.set16 r v)
/-- `x[qq] <- v` on the state. -/
def State.setStack (s : State) (q : StackReg) (v : Word) : State := s.mapRegs (·.setStack q v)
/-- `Z, N, Hf, Cf <- z, n, h, c` on the state. -/
def State.setFlags (s : State) (z n h c : Bool) : State := s.mapRegs (·.setFlags z n h c)
/-- `pc <- target`. -/
def State.setPc (s : State) (v : Word) : State := s.mapRegs fun g => { g with pc := v }
/-- `x[SP] <- v`. -/
def State.setSp (s : State) (v : Word) : State := s.mapRegs fun g => { g with sp := v }

end Sys2Proof.Machine
end

