-- ==== Sys2Proof/Machine/Flags.lean ====
section
/-! DEFINITION. The arithmetic of spec/41_alu8.md, 42_alu16.md and 43_rotate_shift_bit.md: each function
gives the result and the flags it computes. Sums and differences are taken on naturals and narrowed at
the end (R8, R161, R162). -/

namespace Sys2Proof.Machine

/-- `b2n` (R8). -/
def b2n (f : Bool) : Nat := if f then 1 else 0

/-- The low nibble `v[3:0]` as a natural number. -/
def nibble (v : Byte) : Nat := v.toNat % 16

/-- The output of an 8-bit ALU function: the result and the four flags. -/
structure AluOut where
  res : Byte
  z : Bool
  n : Bool
  h : Bool
  c : Bool
  deriving DecidableEq, Repr

/-- `alu_add` (R161). -/
def aluAdd (x y : Byte) (cin : Bool) : AluOut :=
  let sum := x.toNat + y.toNat + b2n cin
  let res := BitVec.ofNat 8 sum
  ⟨res, res == 0#8, false, decide (nibble x + nibble y + b2n cin > 15), decide (sum > 255)⟩

/-- `alu_sub` (R162). -/
def aluSub (x y : Byte) (cin : Bool) : AluOut :=
  let res := BitVec.ofInt 8 ((x.toNat : Int) - (y.toNat : Int) - (b2n cin : Int))
  ⟨res, res == 0#8, true, decide (nibble x < nibble y + b2n cin), decide (x.toNat < y.toNat + b2n cin)⟩

/-- `alu_and` (R163). -/
def aluAnd (x y : Byte) : AluOut := ⟨x &&& y, (x &&& y) == 0#8, false, true, false⟩

/-- `alu_xor` (R164). -/
def aluXor (x y : Byte) : AluOut := ⟨x ^^^ y, (x ^^^ y) == 0#8, false, false, false⟩

/-- `alu_or` (R165). -/
def aluOr (x y : Byte) : AluOut := ⟨x ||| y, (x ||| y) == 0#8, false, false, false⟩

/-- The ALU function of the field `alu` (R99): ADC and SBC take the carry in (R169, R175). -/
def aluFn (op : AluOp) (x y : Byte) (carry : Bool) : AluOut :=
  match op with
  | .add => aluAdd x y false
  | .adc => aluAdd x y carry
  | .sub => aluSub x y false
  | .sbc => aluSub x y carry
  | .and => aluAnd x y
  | .xor => aluXor x y
  | .or => aluOr x y
  | .cp => aluSub x y false

/-- The register file after an ALU instruction: A takes the result, except for CP (R160, R187). -/
def RegFile.aluResult (g : RegFile) (op : AluOp) (y : Byte) : RegFile :=
  let out := aluFn op g.a y g.cf
  let g' := g.setFlags out.z out.n out.h out.c
  match op with
  | .cp => g'
  | _ => { g' with a := out.res }

/-- The output of INC and DEC: the result and the flags but Cf, which they leave alone (R190, R191). -/
structure StepOut where
  res : Byte
  z : Bool
  n : Bool
  h : Bool
  deriving DecidableEq, Repr

/-- `inc8` (R190). -/
def inc8 (v : Byte) : StepOut := ⟨v + 1#8, (v + 1#8) == 0#8, false, nibble v == 15⟩

/-- `dec8` (R191). -/
def dec8 (v : Byte) : StepOut := ⟨v - 1#8, (v - 1#8) == 0#8, true, nibble v == 0⟩

/-- The flags of INC and DEC: Cf unchanged (R192, R194). -/
def RegFile.stepFlags (g : RegFile) (out : StepOut) : RegFile := g.setFlags out.z out.n out.h g.cf

/-- The value DAA leaves in A (R196). -/
def daaValue (a : Byte) (n h c : Bool) : Byte :=
  if n then
    let a1 := if c then a - 0x60#8 else a
    if h then a1 - 0x06#8 else a1
  else
    let a1 := if c || decide (a.toNat > 0x99) then a + 0x60#8 else a
    if h || decide (nibble a1 > 9) then a1 + 0x06#8 else a1

/-- The carry DAA leaves (R196): set after an addition that needed the high correction, else kept. -/
def daaCarry (a : Byte) (n c : Bool) : Bool := c || (!n && decide (a.toNat > 0x99))

/-- The register file after DAA (R196): N unchanged, Hf cleared. -/
def RegFile.daa (g : RegFile) : RegFile :=
  let v := daaValue g.a g.nf g.hf g.cf
  { g with a := v, zf := v == 0#8, hf := false, cf := daaCarry g.a g.nf g.cf }

/-- The register file after CPL (R197): Z and Cf unchanged. -/
def RegFile.cpl (g : RegFile) : RegFile := { g with a := ~~~g.a, nf := true, hf := true }

/-- The register file after SCF (R198): Z unchanged. -/
def RegFile.scf (g : RegFile) : RegFile := { g with nf := false, hf := false, cf := true }

/-- The register file after CCF (R199): Z unchanged. -/
def RegFile.ccf (g : RegFile) : RegFile := { g with nf := false, hf := false, cf := !g.cf }

/-- The register file after `ADD HL,rr` (R212): Z unchanged, carries out of bits 11 and 15. -/
def RegFile.addHl (g : RegFile) (y : Word) : RegFile :=
  let x := g.hl
  let sum := x.toNat + y.toNat
  let g' := g.set16 .hl (BitVec.ofNat 16 sum)
  g'.setFlags g.zf false (decide (x.toNat % 4096 + y.toNat % 4096 > 0xFFF)) (decide (sum > 0xFFFF))

/-- The output of the SP-relative sum (R213). -/
structure SpOut where
  res : Word
  h : Bool
  c : Bool
  deriving DecidableEq, Repr

/-- `sp_add` (R213), for the displacement and its operand byte; Z and N are false. -/
def spAdd (sp : Word) (e : Int) : SpOut :=
  let n := dispByte e
  ⟨sp + dispWord e, decide (sp.toNat % 16 + nibble n > 0xF), decide (sp.toNat % 256 + n.toNat > 0xFF)⟩

/-- The output of a one-bit rotate or shift: the result and the bit for Cf (R230). -/
structure RotOut where
  res : Byte
  out : Bool
  deriving DecidableEq, Repr

/-- The functions of R230. -/
def rotFn (op : RotOp) (v : Byte) (carry : Bool) : RotOut :=
  match op with
  | .rlc => ⟨v <<< 1 ||| bitByte (v.getLsbD 7), v.getLsbD 7⟩
  | .rrc => ⟨v >>> 1 ||| bitByte (v.getLsbD 0) <<< 7, v.getLsbD 0⟩
  | .rl => ⟨v <<< 1 ||| bitByte carry, v.getLsbD 7⟩
  | .rr => ⟨v >>> 1 ||| bitByte carry <<< 7, v.getLsbD 0⟩
  | .sla => ⟨v <<< 1, v.getLsbD 7⟩
  | .sra => ⟨v >>> 1 ||| (v &&& 0x80#8), v.getLsbD 0⟩
  | .swap => ⟨v <<< 4 ||| v >>> 4, false⟩
  | .srl => ⟨v >>> 1, v.getLsbD 0⟩

/-- The flags of a CB rotate or shift (R231). -/
def RegFile.rotFlags (g : RegFile) (o : RotOut) : RegFile := g.setFlags (o.res == 0#8) false false o.out

/-- The register file after an accumulator rotate (R232 to R235): Z by `ACC_ROTATE_Z` (D35). -/
def RegFile.accRotate (g : RegFile) (policy : AccRotateZ) (op : RotOp) : RegFile :=
  let o := rotFn op g.a g.cf
  { g.setFlags (decide (policy = .fromResult) && o.res == 0#8) false false o.out with a := o.res }

/-- The flags of BIT (R252): Cf unchanged. -/
def RegFile.bitFlags (g : RegFile) (b : Fin 8) (v : Byte) : RegFile := g.setFlags (!v.getLsbD b.val) false true g.cf

/-- RES (R254): `v & ~(1 << b)`. -/
def resBit (b : Fin 8) (v : Byte) : Byte := v &&& ~~~(1#8 <<< b.val)

/-- SET (R256): `v | (1 << b)`. -/
def setBit (b : Fin 8) (v : Byte) : Byte := v ||| 1#8 <<< b.val

end Sys2Proof.Machine
end

