-- ==== Sys2Proof/Machine/Memory.lean ====
section
/-! DEFINITION. The byte store behind VRAM, WRAM, PORT and HRAM: a list of cells in one canonical form.
Nothing here knows the memory map; Machine/Bus.lean decides which addresses reach the store. -/

namespace Sys2Proof.Machine

/-- What an address that is not listed reads as: the `INIT_RAM` byte, which the spec leaves open (D9).
DESIGN CHOICE 0x00, unsafe (log 3). -/
def unlistedByte (_ : Nat) : Byte := 0x00#8

/-- The byte at an address. -/
def Memory.read : Memory → Nat → Byte
  | [], a => unlistedByte a
  | (k, v) :: rest, a => if a = k then v else Memory.read rest a

/-- The memory with one byte changed. A byte equal to what the unlisted address reads as is not listed. -/
def Memory.write : Memory → Nat → Byte → Memory
  | [], a, v => if v = unlistedByte a then [] else [(a, v)]
  | (k, w) :: rest, a, v =>
    if a < k then (if v = unlistedByte a then (k, w) :: rest else (a, v) :: (k, w) :: rest)
    else if a = k then (if v = unlistedByte a then rest else (a, v) :: rest)
    else (k, w) :: Memory.write rest a v

/-- The canonical form from an address on: rising addresses, no cell an unlisted address would give. -/
def Memory.wfFrom : Nat → Memory → Bool
  | _, [] => true
  | lo, (k, v) :: rest => decide (lo ≤ k) && decide (v ≠ unlistedByte k) && Memory.wfFrom (k + 1) rest

/-- The canonical form of the memory. -/
def Memory.wf (m : Memory) : Bool := Memory.wfFrom 0 m

/-- The memory that holds a list of bytes, a later pair winning over an earlier one. -/
def Memory.ofCells (cells : List Host.Cell) : Memory :=
  cells.foldl (fun m c => Memory.write m c.1 c.2) []

end Sys2Proof.Machine
end

