-- ==== Sys2Proof/Machine/Bus.lean ====
section
/-! DEFINITION. The bus (spec/20_memory.md): the address decoder, the cartridge interface, the I/O
dispatch with the PPU's registers, and the two bus operations. -/

namespace Sys2Proof.Machine

/-- The backing store that answers an address (R52). -/
inductive Region where
  | boot
  | cart
  | vram
  | wram
  | io
  | hram
  | unmapped
  deriving DecidableEq, Repr

/-- The address decoder, first match wins (R52); the overlay row holds while `boot_latch` is set. -/
def regionOf (bootLatch : Bool) (a : Word) : Region :=
  let n := a.toNat
  if n < 0x0100 ∧ bootLatch = true then .boot
  else if n < 0x4000 then .cart
  else if 0x8000 ≤ n ∧ n < 0xA000 then .vram
  else if 0xC000 ≤ n ∧ n < 0xE000 then .wram
  else if 0xFF00 ≤ n ∧ n < 0xFF80 then .io
  else if 0xFF80 ≤ n ∧ n < 0xFFFF then .hram
  else .unmapped

/-! ## The cartridge (R58 to R65) -/

/-- The mapper variants the load accepts (R58). -/
inductive Mapper where
  | directMapped
  deriving DecidableEq, Repr

/-- The variant of a mapper byte (R58): only 0x00 is supported. -/
def mapperOf (b : Byte) : Option Mapper := if b = 0x00#8 then some .directMapped else none

/-- `read_program` (R63): past the end of the image it is `ROM_PAD`. -/
def readProgram (cfg : Config) (a : Nat) : Byte := cfg.rom.getD a cfg.romPad

/-- `write_program` (R64): it always fails. -/
def writeProgram (a : Word) (_ : Byte) : Fault := .readOnlyViolation a

/-- The persistent-memory accessors (R65): they always fail. -/
def persistentAccess : Fault := .noPersistentMemory

/-- A byte of the boot overlay (R73). Where no byte was supplied it is `ROM_PAD`, which no run from a load
reads: without a 256-byte overlay `step` refuses (log 12). -/
def readBoot (cfg : Config) (a : Nat) : Byte :=
  match cfg.boot with
  | some b => b.getD a cfg.romPad
  | none => cfg.romPad

/-! ## PPU registers and I/O (R56, R57) -/

/-- LCDC bit 7, the LCD enable (R35). -/
def Ppu.enabled (p : Ppu) : Bool := p.lcdc.getLsbD 7

/-- Whether the CPU is kept out of VRAM (R350, R351). -/
def vramBlocked (cfg : Config) (p : Ppu) : Bool :=
  decide (cfg.vramPolicy = .blockOamTransfer) && p.enabled && (decide (p.mode = .oam) || decide (p.mode = .transfer))

/-- The addresses the PPU owns (R56). -/
def ppuOwned (a : Word) : Bool := a == 0xFF40#16 || a == 0xFF42#16 || a == 0xFF44#16 || a == 0xFF47#16

/-- `ppu_read_register` (R57). -/
def Ppu.readRegister (p : Ppu) (a : Word) : Except Fault Byte :=
  if a = 0xFF40#16 then .ok p.lcdc
  else if a = 0xFF42#16 then .ok p.scy
  else if a = 0xFF44#16 then .ok p.ly
  else if a = 0xFF47#16 then .ok p.bgp
  else .error (.unsupportedRegister a)

/-- `ppu_write_register` (R57): a write of LY does nothing (R37). -/
def Ppu.writeRegister (p : Ppu) (a : Word) (v : Byte) : Except Fault Ppu :=
  if a = 0xFF40#16 then .ok { p with lcdc := v }
  else if a = 0xFF42#16 then .ok { p with scy := v }
  else if a = 0xFF44#16 then .ok p
  else if a = 0xFF47#16 then .ok { p with bgp := v }
  else .error (.unsupportedRegister a)

/-- The byte of the store at a bus address: VRAM, WRAM, PORT or HRAM (R34, R41). -/
def State.memByte (s : State) (a : Word) : Byte := Memory.read s.mem a.toNat

/-- The state with one byte of the store changed. -/
def State.setMemByte (s : State) (a : Word) (v : Byte) : State := { s with mem := Memory.write s.mem a.toNat v }

/-- `io_read` (R56). -/
def State.ioRead (s : State) (a : Word) : Except Fault Byte :=
  if ppuOwned a then s.ppu.readRegister a else .ok (s.memByte a)

/-- `io_write` (R56): 0xFF50 clears the boot latch and is stored (R39). -/
def State.ioWrite (s : State) (a : Word) (v : Byte) : Except Fault State :=
  if ppuOwned a then
    match s.ppu.writeRegister a v with
    | .ok p => .ok { s with ppu := p }
    | .error f => .error f
  else if a = 0xFF50#16 then .ok { s.setMemByte a v with bootLatch := false }
  else .ok (s.setMemByte a v)

/-! ## The bus operations (R51) -/

/-- `MemRead(a, 1)` (R52, R350). A read changes no state (R70). -/
def State.busRead (s : State) (a : Word) : Except Fault Byte :=
  match regionOf s.bootLatch a with
  | .boot => .ok (readBoot s.cfg a.toNat)
  | .cart => .ok (readProgram s.cfg a.toNat)
  | .vram => .ok (if vramBlocked s.cfg s.ppu then s.cfg.vramSentinel else s.memByte a)
  | .wram => .ok (s.memByte a)
  | .io => s.ioRead a
  | .hram => .ok (s.memByte a)
  | .unmapped => .error (.busError a .read)

/-- `MemWrite(a, 1, v)` (R52, R351). -/
def State.busWrite (s : State) (a : Word) (v : Byte) : Except Fault State :=
  match regionOf s.bootLatch a with
  | .boot => .error (writeProgram a v)
  | .cart => .error (writeProgram a v)
  | .vram => .ok (if vramBlocked s.cfg s.ppu then s else s.setMemByte a v)
  | .wram => .ok (s.setMemByte a v)
  | .io => s.ioWrite a v
  | .hram => .ok (s.setMemByte a v)
  | .unmapped => .error (.busError a .write)

end Sys2Proof.Machine
end

