-- ==== Sys2Proof/Machine/Ppu.lean ====
section
/-! DEFINITION. The display controller (spec/50_ppu.md): durations, transitions, the scanline renderer and
`ppu_advance`. -/

namespace Sys2Proof.Machine

/-- `DUR(mode)` (R321). -/
def Mode.duration : Mode → Nat
  | .oam => 83
  | .transfer => 175
  | .hblank => 207
  | .vblank => 4560

/-- The length of one of VBlank's ten logical lines (R327). -/
def vblankLine : Nat := 456

/-- The mode after an exit, by the scanline after the exit action (R322, R332). -/
def Mode.next (m : Mode) (ly : Byte) : Mode :=
  match m with
  | .oam => .transfer
  | .transfer => .hblank
  | .hblank => if ly.toNat < 144 then .oam else .vblank
  | .vblank => .oam

/-! ## Rendering (R335 to R342) -/

/-- A byte of VRAM by its offset, as the PPU reads it: never blocked (R352). -/
def vramByte (mem : Memory) (off : Nat) : Byte := Memory.read mem (0x8000 + off)

/-- The background row of a scanline (R336). -/
def backgroundRow (scy l : Byte) : Nat := (l + scy).toNat

/-- The tile index at background row `row` and column `x` (R337). -/
def tileIndex (mem : Memory) (row x : Nat) : Byte := vramByte mem (0x1800 + row / 8 * 32 + x / 8)

/-- The colour index of a pixel column within a tile row, from its two bit planes (R339). -/
def colorIndex (lo hi : Byte) (col : Nat) : Nat := 2 * b2nBit hi (7 - col) + b2nBit lo (7 - col)
where
  /-- Bit `b` of a byte, 0 or 1. -/
  b2nBit (v : Byte) (b : Nat) : Nat := if v.getLsbD b then 1 else 0

/-- The shade of a colour index through BGP (R340). -/
def shadeOf (bgp : Byte) (ci : Nat) : Nat := (bgp.toNat >>> (2 * ci)) % 4

/-- `SHADE_COLOR[s]` (R341). -/
def ShadeColors.color (t : ShadeColors) : Nat → Color
  | 0 => t.shade0
  | 1 => t.shade1
  | 2 => t.shade2
  | _ => t.shade3

/-- The colour of column `x` of a scanline (R335). -/
def pixelColor (shades : ShadeColors) (mem : Memory) (scy bgp l : Byte) (x : Nat) : Color :=
  let row := backgroundRow scy l
  let base := (tileIndex mem row x).toNat * 16 + row % 8 * 2
  let ci := colorIndex (vramByte mem base) (vramByte mem (base + 1)) (x % 8)
  ShadeColors.color shades (shadeOf bgp ci)

/-- The 160 colours of a scanline (R335). -/
def scanline (shades : ShadeColors) (mem : Memory) (scy bgp l : Byte) : List Color :=
  (List.range 160).map (pixelColor shades mem scy bgp l)

/-- `render_line` (R335, R342): row `ly` of FB is replaced, no other row changes. -/
def Ppu.renderLine (shades : ShadeColors) (mem : Memory) (p : Ppu) : Ppu :=
  { p with fb := p.fb.set p.ly.toNat (scanline shades mem p.scy p.bgp p.ly) }

/-! ## The state machine (R322 to R333) -/

/-- The exit action of the mode (R322, R330 to R333, R346). -/
def Ppu.exitAction (shades : ShadeColors) (mem : Memory) (p : Ppu) : Ppu :=
  match p.mode with
  | .oam => p
  | .transfer => p.renderLine shades mem
  | .hblank => { p with ly := p.ly + 1#8 }
  | .vblank => { p with framesOut := p.framesOut ++ [p.fb], ly := 0#8 }

/-- Leaving a mode: the exit action, then the next mode with its full duration (R322, R323). -/
def Ppu.leaveMode (shades : ShadeColors) (mem : Memory) (p : Ppu) : Ppu :=
  let q := p.exitAction shades mem
  let m := p.mode.next q.ly
  { q with mode := m, countdown := m.duration }

/-- The loop of `ppu_advance` (R323). The first argument bounds its turns: each turn but the first uses up
at least 83 cycles, so `c + 1` turns are enough for `c` cycles (log 13). -/
def Ppu.advanceLoop (shades : ShadeColors) (mem : Memory) : Nat → Nat → Ppu → Ppu
  | 0, _, p => p
  | turns + 1, c, p =>
    if c = 0 then p
    else if c < p.countdown then { p with countdown := p.countdown - c }
    else Ppu.advanceLoop shades mem turns (c - p.countdown) (p.leaveMode shades mem)

/-- The scanline counter within VBlank (R327). -/
def vblankLy (countdown : Nat) : Byte := BitVec.ofNat 8 (144 + (4560 - countdown) / vblankLine)

/-- The last line of `ppu_advance` (R323, R327). -/
def Ppu.syncLy (p : Ppu) : Ppu :=
  match p.mode with
  | .vblank => { p with ly := vblankLy p.countdown }
  | .oam => p
  | .transfer => p
  | .hblank => p

/-- `ppu_advance(c)` (R323, R324): nothing happens while the LCD is off. -/
def Ppu.advance (shades : ShadeColors) (mem : Memory) (c : Nat) (p : Ppu) : Ppu :=
  if p.enabled then (Ppu.advanceLoop shades mem (c + 1) c p).syncLy else p

/-- `ppu_advance(c)` on the state: it reads VRAM, SCY and BGP and changes the PPU alone (R334, R335). -/
def State.advancePpu (s : State) (c : Nat) : State := { s with ppu := s.ppu.advance s.cfg.shades s.mem c }

end Sys2Proof.Machine
end

