-- ==== Sys2Proof/Machine/Ops.lean ====
section
/-! DEFINITION. What every meaning is built from. A meaning is given the state at the instruction's START
(PC is its address, log 18), moves past its bytes with `skip`, makes its bus accesses in the order of its
pseudocode, and ends in `complete`, which charges the cost and advances the PPU (spec/70_reset_and_hazards.md
R398). An access that fails ends it with `raise`, the one operation that takes a fault
(spec/60_exceptions.md R362). -/

namespace Sys2Proof.Machine

/-- PC past the instruction's `n` bytes (R27): its end address. -/
def State.skip (s : State) (n : Nat) : State := s.setPc (s.regs.pc + BitVec.ofNat 16 n)

/-- `cycles_total <- cycles_total + cost` (R400). -/
def State.charge (s : State) (c : Nat) : State := { s with cyclesTotal := s.cyclesTotal + c }

/-- The end of a completed instruction: the cost is charged and the PPU advanced by it (R398, R399). -/
def State.retire (s : State) (c : Nat) : State := (s.charge c).advancePpu c

/-- Taking a fault (R362, R363): `now` is the state the failing access left, so the bus writes made before
it stay; the register file, `ime` and `ime_pend` are those of `start`, the instruction's start; nothing is
charged and the PPU does not advance; the status holds the record. No fault has a return (R365). -/
def State.raise (start now : State) (f : Fault) : State :=
  { now with regs := start.regs, ime := start.ime, imePend := start.imePend, status := .faulted ⟨f, start.regs⟩ }

/-- The code of a fault kind (R361). -/
def Fault.code : Fault → Nat
  | .busError _ _ => 1
  | .readOnlyViolation _ => 2
  | .decodeError _ _ _ => 3
  | .loadError _ => 4
  | .noPersistentMemory => 5
  | .unsupportedRegister _ => 6

/-- What a meaning answers with. -/
abbrev Exec := Host.Outcome State Fault Refusal

/-- The end of a meaning that completed in the state `s` with the cost `c`. -/
def complete (s : State) (c : Nat) : Exec := .next (s.retire c)

/-- A bus read of an instruction that started in `start`; the read sees the state `now`. -/
def withRead (start now : State) (a : Word) (k : Byte → Exec) : Exec :=
  match now.busRead a with
  | .ok v => k v
  | .error f => .next (State.raise start now f)

/-- A bus write of an instruction that started in `start`. -/
def withWrite (start now : State) (a : Word) (v : Byte) (k : State → Exec) : Exec :=
  match now.busWrite a v with
  | .ok t => k t
  | .error f => .next (State.raise start now f)

/-- `push16(v)` (R150): the high byte at SP - 1, the low byte at SP - 2, SP written after both. -/
def push16 (start now : State) (v : Word) (k : State → Exec) : Exec :=
  let sp := now.regs.sp
  withWrite start now (sp - 1#16) (hiByte v) fun t =>
    withWrite start t (sp - 2#16) (loByte v) fun u => k (u.setSp (sp - 2#16))

/-- `pop16()` (R151): the low byte at SP, the high byte at SP + 1, SP written after both. -/
def pop16 (start now : State) (k : Word → State → Exec) : Exec :=
  let sp := now.regs.sp
  withRead start now sp fun lo =>
    withRead start now (sp + 1#16) fun hi => k (joinBytes hi lo) (now.setSp (sp + 2#16))

/-- The 8-bit operand of an ALU instruction: a register without a bus access, or the byte at HL (R160). -/
def withSrc (start now : State) (x : Src8) (k : Byte → Exec) : Exec :=
  match x with
  | .reg r => k (now.regs.get8 r)
  | .mHL => withRead start now now.regs.hl k

/-- Writing an 8-bit operand back: a register, or the byte at HL. -/
def withDst (start now : State) (x : Src8) (v : Byte) (k : State → Exec) : Exec :=
  match x with
  | .reg r => k (now.set8 r v)
  | .mHL => withWrite start now now.regs.hl v k

/-- The start-of-step action (R397): the pending DI or EI counts down, then applies its target. -/
def State.startOfStep (s : State) : State :=
  match s.imePend with
  | none => s
  | some ⟨.two, t⟩ => { s with imePend := some ⟨.one, t⟩ }
  | some ⟨.one, t⟩ => { s with ime := t, imePend := none }

end Sys2Proof.Machine
end

