-- ==== Sys2Proof/Machine/Alu16.lean ====
section
/-! DEFINITION. 16-bit arithmetic (spec/42_alu16.md). -/

namespace Sys2Proof.Machine

/-- `INC rr` and `DEC rr` (R210, R211): no flag changes. -/
def stepPair (op : Opcode) (delta : Word) (r : Reg16) (s : State) : Exec :=
  complete ((s.skip 1).set16 r (s.regs.get16 r + delta)) (s.cost op)

/-- `ADD HL,rr` (R212). -/
def addHlPair (op : Opcode) (r : Reg16) (s : State) : Exec :=
  complete ((s.skip 1).mapRegs (·.addHl (s.regs.get16 r))) (s.cost op)

/-- `ADD SP,e` (R214). -/
def addSp (op : Opcode) (e : Int) (s : State) : Exec :=
  let out := spAdd s.regs.sp e
  complete (((s.skip 2).setFlags false false out.h out.c).setSp out.res) (s.cost op)

/-- `LD HL,SP+e` (R215). -/
def ldHlSp (op : Opcode) (e : Int) (s : State) : Exec :=
  let out := spAdd s.regs.sp e
  complete (((s.skip 2).setFlags false false out.h out.c).set16 .hl out.res) (s.cost op)

/-! ## The meanings -/

/-- 03, `INC BC` (R210). -/
def execInc_BC (s : State) : Exec := stepPair (.base 0x03#8) 1#16 .bc s
/-- 09, `ADD HL,BC` (R212). -/
def execAdd_HL_BC (s : State) : Exec := addHlPair (.base 0x09#8) .bc s
/-- 0B, `DEC BC` (R211). -/
def execDec_BC (s : State) : Exec := stepPair (.base 0x0B#8) (-1#16) .bc s
/-- 13, `INC DE` (R210). -/
def execInc_DE (s : State) : Exec := stepPair (.base 0x13#8) 1#16 .de s
/-- 19, `ADD HL,DE` (R212). -/
def execAdd_HL_DE (s : State) : Exec := addHlPair (.base 0x19#8) .de s
/-- 1B, `DEC DE` (R211). -/
def execDec_DE (s : State) : Exec := stepPair (.base 0x1B#8) (-1#16) .de s
/-- 23, `INC HL` (R210). -/
def execInc_HL (s : State) : Exec := stepPair (.base 0x23#8) 1#16 .hl s
/-- 29, `ADD HL,HL` (R212). -/
def execAdd_HL_HL (s : State) : Exec := addHlPair (.base 0x29#8) .hl s
/-- 2B, `DEC HL` (R211). -/
def execDec_HL (s : State) : Exec := stepPair (.base 0x2B#8) (-1#16) .hl s
/-- 33, `INC SP` (R210). -/
def execInc_SP (s : State) : Exec := stepPair (.base 0x33#8) 1#16 .sp s
/-- 39, `ADD HL,SP` (R212). -/
def execAdd_HL_SP (s : State) : Exec := addHlPair (.base 0x39#8) .sp s
/-- 3B, `DEC SP` (R211). -/
def execDec_SP (s : State) : Exec := stepPair (.base 0x3B#8) (-1#16) .sp s
/-- E8, `ADD SP,e` (R214). -/
def execAdd_SP_e (e : Int) (s : State) : Exec := addSp (.base 0xE8#8) e s
/-- F8, `LD HL,SP+e` (R215). -/
def execLd_HL_SPe (e : Int) (s : State) : Exec := ldHlSp (.base 0xF8#8) e s

end Sys2Proof.Machine
end

