-- ==== Sys2Proof/Machine/Alu8.lean ====
section
/-! DEFINITION. 8-bit arithmetic and logic (spec/41_alu8.md). -/

namespace Sys2Proof.Machine

/-- An ALU instruction on a register or the byte at HL (R166 to R188). -/
def aluSrc (op : Opcode) (f : AluOp) (x : Src8) (s : State) : Exec :=
  withSrc s s x fun v => complete ((s.skip 1).mapRegs (·.aluResult f v)) (s.cost op)

/-- An ALU instruction on an immediate (R168 to R189). -/
def aluImm (op : Opcode) (f : AluOp) (n : Byte) (s : State) : Exec :=
  complete ((s.skip 2).mapRegs (·.aluResult f n)) (s.cost op)

/-- `INC` and `DEC` on a register or the byte at HL (R192 to R195): the operand is read, stepped and written
back, then the flags but Cf are set. -/
def stepSrc (op : Opcode) (f : Byte → StepOut) (x : Src8) (s : State) : Exec :=
  withSrc s s x fun v =>
    withDst s (s.skip 1) x (f v).res fun t => complete (t.mapRegs (·.stepFlags (f v))) (s.cost op)

/-- An instruction of one byte that works on the register file alone (R196 to R199). -/
def regsOnly (op : Opcode) (f : RegFile → RegFile) (s : State) : Exec :=
  complete ((s.skip 1).mapRegs f) (s.cost op)

/-! ## The meanings -/

/-- 04, `INC B` (R192). -/
def execInc_B (s : State) : Exec := stepSrc (.base 0x04#8) inc8 (.reg .b) s
/-- 05, `DEC B` (R194). -/
def execDec_B (s : State) : Exec := stepSrc (.base 0x05#8) dec8 (.reg .b) s
/-- 0C, `INC C` (R192). -/
def execInc_C (s : State) : Exec := stepSrc (.base 0x0C#8) inc8 (.reg .c) s
/-- 0D, `DEC C` (R194). -/
def execDec_C (s : State) : Exec := stepSrc (.base 0x0D#8) dec8 (.reg .c) s
/-- 14, `INC D` (R192). -/
def execInc_D (s : State) : Exec := stepSrc (.base 0x14#8) inc8 (.reg .d) s
/-- 15, `DEC D` (R194). -/
def execDec_D (s : State) : Exec := stepSrc (.base 0x15#8) dec8 (.reg .d) s
/-- 1C, `INC E` (R192). -/
def execInc_E (s : State) : Exec := stepSrc (.base 0x1C#8) inc8 (.reg .e) s
/-- 1D, `DEC E` (R194). -/
def execDec_E (s : State) : Exec := stepSrc (.base 0x1D#8) dec8 (.reg .e) s
/-- 24, `INC H` (R192). -/
def execInc_H (s : State) : Exec := stepSrc (.base 0x24#8) inc8 (.reg .h) s
/-- 25, `DEC H` (R194). -/
def execDec_H (s : State) : Exec := stepSrc (.base 0x25#8) dec8 (.reg .h) s
/-- 27, `DAA` (R196). -/
def execDaa (s : State) : Exec := regsOnly (.base 0x27#8) RegFile.daa s
/-- 2C, `INC L` (R192). -/
def execInc_L (s : State) : Exec := stepSrc (.base 0x2C#8) inc8 (.reg .l) s
/-- 2D, `DEC L` (R194). -/
def execDec_L (s : State) : Exec := stepSrc (.base 0x2D#8) dec8 (.reg .l) s
/-- 2F, `CPL` (R197). -/
def execCpl (s : State) : Exec := regsOnly (.base 0x2F#8) RegFile.cpl s
/-- 34, `INC (HL)` (R193). -/
def execInc_mHL (s : State) : Exec := stepSrc (.base 0x34#8) inc8 .mHL s
/-- 35, `DEC (HL)` (R195). -/
def execDec_mHL (s : State) : Exec := stepSrc (.base 0x35#8) dec8 .mHL s
/-- 37, `SCF` (R198). -/
def execScf (s : State) : Exec := regsOnly (.base 0x37#8) RegFile.scf s
/-- 3C, `INC A` (R192). -/
def execInc_A (s : State) : Exec := stepSrc (.base 0x3C#8) inc8 (.reg .a) s
/-- 3D, `DEC A` (R194). -/
def execDec_A (s : State) : Exec := stepSrc (.base 0x3D#8) dec8 (.reg .a) s
/-- 3F, `CCF` (R199). -/
def execCcf (s : State) : Exec := regsOnly (.base 0x3F#8) RegFile.ccf s
/-- 80, `ADD A,B` (R166). -/
def execAdd_A_B (s : State) : Exec := aluSrc (.base 0x80#8) .add (.reg .b) s
/-- 81, `ADD A,C` (R166). -/
def execAdd_A_C (s : State) : Exec := aluSrc (.base 0x81#8) .add (.reg .c) s
/-- 82, `ADD A,D` (R166). -/
def execAdd_A_D (s : State) : Exec := aluSrc (.base 0x82#8) .add (.reg .d) s
/-- 83, `ADD A,E` (R166). -/
def execAdd_A_E (s : State) : Exec := aluSrc (.base 0x83#8) .add (.reg .e) s
/-- 84, `ADD A,H` (R166). -/
def execAdd_A_H (s : State) : Exec := aluSrc (.base 0x84#8) .add (.reg .h) s
/-- 85, `ADD A,L` (R166). -/
def execAdd_A_L (s : State) : Exec := aluSrc (.base 0x85#8) .add (.reg .l) s
/-- 86, `ADD A,(HL)` (R167). -/
def execAdd_A_mHL (s : State) : Exec := aluSrc (.base 0x86#8) .add .mHL s
/-- 87, `ADD A,A` (R166). -/
def execAdd_A_A (s : State) : Exec := aluSrc (.base 0x87#8) .add (.reg .a) s
/-- 88, `ADC A,B` (R169). -/
def execAdc_A_B (s : State) : Exec := aluSrc (.base 0x88#8) .adc (.reg .b) s
/-- 89, `ADC A,C` (R169). -/
def execAdc_A_C (s : State) : Exec := aluSrc (.base 0x89#8) .adc (.reg .c) s
/-- 8A, `ADC A,D` (R169). -/
def execAdc_A_D (s : State) : Exec := aluSrc (.base 0x8A#8) .adc (.reg .d) s
/-- 8B, `ADC A,E` (R169). -/
def execAdc_A_E (s : State) : Exec := aluSrc (.base 0x8B#8) .adc (.reg .e) s
/-- 8C, `ADC A,H` (R169). -/
def execAdc_A_H (s : State) : Exec := aluSrc (.base 0x8C#8) .adc (.reg .h) s
/-- 8D, `ADC A,L` (R169). -/
def execAdc_A_L (s : State) : Exec := aluSrc (.base 0x8D#8) .adc (.reg .l) s
/-- 8E, `ADC A,(HL)` (R170). -/
def execAdc_A_mHL (s : State) : Exec := aluSrc (.base 0x8E#8) .adc .mHL s
/-- 8F, `ADC A,A` (R169). -/
def execAdc_A_A (s : State) : Exec := aluSrc (.base 0x8F#8) .adc (.reg .a) s
/-- 90, `SUB B` (R172). -/
def execSub_B (s : State) : Exec := aluSrc (.base 0x90#8) .sub (.reg .b) s
/-- 91, `SUB C` (R172). -/
def execSub_C (s : State) : Exec := aluSrc (.base 0x91#8) .sub (.reg .c) s
/-- 92, `SUB D` (R172). -/
def execSub_D (s : State) : Exec := aluSrc (.base 0x92#8) .sub (.reg .d) s
/-- 93, `SUB E` (R172). -/
def execSub_E (s : State) : Exec := aluSrc (.base 0x93#8) .sub (.reg .e) s
/-- 94, `SUB H` (R172). -/
def execSub_H (s : State) : Exec := aluSrc (.base 0x94#8) .sub (.reg .h) s
/-- 95, `SUB L` (R172). -/
def execSub_L (s : State) : Exec := aluSrc (.base 0x95#8) .sub (.reg .l) s
/-- 96, `SUB (HL)` (R173). -/
def execSub_mHL (s : State) : Exec := aluSrc (.base 0x96#8) .sub .mHL s
/-- 97, `SUB A` (R172). -/
def execSub_A (s : State) : Exec := aluSrc (.base 0x97#8) .sub (.reg .a) s
/-- 98, `SBC A,B` (R175). -/
def execSbc_A_B (s : State) : Exec := aluSrc (.base 0x98#8) .sbc (.reg .b) s
/-- 99, `SBC A,C` (R175). -/
def execSbc_A_C (s : State) : Exec := aluSrc (.base 0x99#8) .sbc (.reg .c) s
/-- 9A, `SBC A,D` (R175). -/
def execSbc_A_D (s : State) : Exec := aluSrc (.base 0x9A#8) .sbc (.reg .d) s
/-- 9B, `SBC A,E` (R175). -/
def execSbc_A_E (s : State) : Exec := aluSrc (.base 0x9B#8) .sbc (.reg .e) s
/-- 9C, `SBC A,H` (R175). -/
def execSbc_A_H (s : State) : Exec := aluSrc (.base 0x9C#8) .sbc (.reg .h) s
/-- 9D, `SBC A,L` (R175). -/
def execSbc_A_L (s : State) : Exec := aluSrc (.base 0x9D#8) .sbc (.reg .l) s
/-- 9E, `SBC A,(HL)` (R176). -/
def execSbc_A_mHL (s : State) : Exec := aluSrc (.base 0x9E#8) .sbc .mHL s
/-- 9F, `SBC A,A` (R175). -/
def execSbc_A_A (s : State) : Exec := aluSrc (.base 0x9F#8) .sbc (.reg .a) s
/-- A0, `AND B` (R178). -/
def execAnd_B (s : State) : Exec := aluSrc (.base 0xA0#8) .and (.reg .b) s
/-- A1, `AND C` (R178). -/
def execAnd_C (s : State) : Exec := aluSrc (.base 0xA1#8) .and (.reg .c) s
/-- A2, `AND D` (R178). -/
def execAnd_D (s : State) : Exec := aluSrc (.base 0xA2#8) .and (.reg .d) s
/-- A3, `AND E` (R178). -/
def execAnd_E (s : State) : Exec := aluSrc (.base 0xA3#8) .and (.reg .e) s
/-- A4, `AND H` (R178). -/
def execAnd_H (s : State) : Exec := aluSrc (.base 0xA4#8) .and (.reg .h) s
/-- A5, `AND L` (R178). -/
def execAnd_L (s : State) : Exec := aluSrc (.base 0xA5#8) .and (.reg .l) s
/-- A6, `AND (HL)` (R179). -/
def execAnd_mHL (s : State) : Exec := aluSrc (.base 0xA6#8) .and .mHL s
/-- A7, `AND A` (R178). -/
def execAnd_A (s : State) : Exec := aluSrc (.base 0xA7#8) .and (.reg .a) s
/-- A8, `XOR B` (R181). -/
def execXor_B (s : State) : Exec := aluSrc (.base 0xA8#8) .xor (.reg .b) s
/-- A9, `XOR C` (R181). -/
def execXor_C (s : State) : Exec := aluSrc (.base 0xA9#8) .xor (.reg .c) s
/-- AA, `XOR D` (R181). -/
def execXor_D (s : State) : Exec := aluSrc (.base 0xAA#8) .xor (.reg .d) s
/-- AB, `XOR E` (R181). -/
def execXor_E (s : State) : Exec := aluSrc (.base 0xAB#8) .xor (.reg .e) s
/-- AC, `XOR H` (R181). -/
def execXor_H (s : State) : Exec := aluSrc (.base 0xAC#8) .xor (.reg .h) s
/-- AD, `XOR L` (R181). -/
def execXor_L (s : State) : Exec := aluSrc (.base 0xAD#8) .xor (.reg .l) s
/-- AE, `XOR (HL)` (R182). -/
def execXor_mHL (s : State) : Exec := aluSrc (.base 0xAE#8) .xor .mHL s
/-- AF, `XOR A` (R181). -/
def execXor_A (s : State) : Exec := aluSrc (.base 0xAF#8) .xor (.reg .a) s
/-- B0, `OR B` (R184). -/
def execOr_B (s : State) : Exec := aluSrc (.base 0xB0#8) .or (.reg .b) s
/-- B1, `OR C` (R184). -/
def execOr_C (s : State) : Exec := aluSrc (.base 0xB1#8) .or (.reg .c) s
/-- B2, `OR D` (R184). -/
def execOr_D (s : State) : Exec := aluSrc (.base 0xB2#8) .or (.reg .d) s
/-- B3, `OR E` (R184). -/
def execOr_E (s : State) : Exec := aluSrc (.base 0xB3#8) .or (.reg .e) s
/-- B4, `OR H` (R184). -/
def execOr_H (s : State) : Exec := aluSrc (.base 0xB4#8) .or (.reg .h) s
/-- B5, `OR L` (R184). -/
def execOr_L (s : State) : Exec := aluSrc (.base 0xB5#8) .or (.reg .l) s
/-- B6, `OR (HL)` (R185). -/
def execOr_mHL (s : State) : Exec := aluSrc (.base 0xB6#8) .or .mHL s
/-- B7, `OR A` (R184). -/
def execOr_A (s : State) : Exec := aluSrc (.base 0xB7#8) .or (.reg .a) s
/-- B8, `CP B` (R187). -/
def execCp_B (s : State) : Exec := aluSrc (.base 0xB8#8) .cp (.reg .b) s
/-- B9, `CP C` (R187). -/
def execCp_C (s : State) : Exec := aluSrc (.base 0xB9#8) .cp (.reg .c) s
/-- BA, `CP D` (R187). -/
def execCp_D (s : State) : Exec := aluSrc (.base 0xBA#8) .cp (.reg .d) s
/-- BB, `CP E` (R187). -/
def execCp_E (s : State) : Exec := aluSrc (.base 0xBB#8) .cp (.reg .e) s
/-- BC, `CP H` (R187). -/
def execCp_H (s : State) : Exec := aluSrc (.base 0xBC#8) .cp (.reg .h) s
/-- BD, `CP L` (R187). -/
def execCp_L (s : State) : Exec := aluSrc (.base 0xBD#8) .cp (.reg .l) s
/-- BE, `CP (HL)` (R188). -/
def execCp_mHL (s : State) : Exec := aluSrc (.base 0xBE#8) .cp .mHL s
/-- BF, `CP A` (R187). -/
def execCp_A (s : State) : Exec := aluSrc (.base 0xBF#8) .cp (.reg .a) s
/-- C6, `ADD A,n` (R168). -/
def execAdd_A_n (n : Byte) (s : State) : Exec := aluImm (.base 0xC6#8) .add n s
/-- CE, `ADC A,n` (R171). -/
def execAdc_A_n (n : Byte) (s : State) : Exec := aluImm (.base 0xCE#8) .adc n s
/-- D6, `SUB n` (R174). -/
def execSub_n (n : Byte) (s : State) : Exec := aluImm (.base 0xD6#8) .sub n s
/-- DE, `SBC A,n` (R177). -/
def execSbc_A_n (n : Byte) (s : State) : Exec := aluImm (.base 0xDE#8) .sbc n s
/-- E6, `AND n` (R180). -/
def execAnd_n (n : Byte) (s : State) : Exec := aluImm (.base 0xE6#8) .and n s
/-- EE, `XOR n` (R183). -/
def execXor_n (n : Byte) (s : State) : Exec := aluImm (.base 0xEE#8) .xor n s
/-- F6, `OR n` (R186). -/
def execOr_n (n : Byte) (s : State) : Exec := aluImm (.base 0xF6#8) .or n s
/-- FE, `CP n` (R189). -/
def execCp_n (n : Byte) (s : State) : Exec := aluImm (.base 0xFE#8) .cp n s

end Sys2Proof.Machine
end

