-- ==== Sys2Proof/Machine/Control.lean ====
section
/-! DEFINITION. Control transfer (spec/44_control.md). A condition is taken on the flags before the
instruction, and the operand is fetched whether it holds or not (R270). No flag changes. -/

namespace Sys2Proof.Machine

/-- The end of a jump: taken to `target`, or on to the end address with the other cost (R415). -/
def jumpIf (op : Opcode) (taken : Bool) (target : Word) (s t : State) : Exec :=
  if taken then complete (t.setPc target) (s.cost op) else complete t (s.costNotTaken op)

/-- `JP nn` and `JP cc,nn` (R271, R272). -/
def jumpAbs (op : Opcode) (taken : Bool) (nn : Word) (s : State) : Exec := jumpIf op taken nn s (s.skip 3)

/-- `JP (HL)` (R273): the target is HL itself. -/
def jumpHl (op : Opcode) (s : State) : Exec := jumpIf op true s.regs.hl s (s.skip 1)

/-- `JR e` and `JR cc,e` (R274, R275): relative to the end address. -/
def jumpRel (op : Opcode) (taken : Bool) (e : Int) (s : State) : Exec :=
  let t := s.skip 2
  jumpIf op taken (t.regs.pc + dispWord e) s t

/-- A call of an instruction of `len` bytes: the end address is pushed (R276, R282). -/
def callTo (op : Opcode) (len : Nat) (target : Word) (s : State) : Exec :=
  let t := s.skip len
  push16 s t t.regs.pc fun u => complete (u.setPc target) (s.cost op)

/-- `CALL nn` and `CALL cc,nn` (R276, R277): not taken touches no stack byte. -/
def callIf (op : Opcode) (taken : Bool) (nn : Word) (s : State) : Exec :=
  if taken then callTo op 3 nn s else complete (s.skip 3) (s.costNotTaken op)

/-- `RET` and `RET cc` (R278, R279): not taken reads no stack byte. -/
def retIf (op : Opcode) (taken : Bool) (s : State) : Exec :=
  if taken then pop16 s (s.skip 1) fun v t => complete (t.setPc v) (s.cost op)
  else complete (s.skip 1) (s.costNotTaken op)

/-- `RETI` (R280): as RET, and `ime` is set at once. -/
def retEnable (op : Opcode) (s : State) : Exec :=
  pop16 s (s.skip 1) fun v t => complete { t.setPc v with ime := true } (s.cost op)

/-- The restart vector `t * 8` (R101, R282). -/
def rstVector (t : Fin 8) : Word := BitVec.ofNat 16 (t.val * 8)

/-- `RST t` (R282). -/
def restart (op : Opcode) (t : Fin 8) (s : State) : Exec := callTo op 1 (rstVector t) s

/-! ## The meanings -/

/-- 18, `JR e` (R274). -/
def execJr_e (e : Int) (s : State) : Exec := jumpRel (.base 0x18#8) true e s
/-- 20, `JR NZ,e` (R275). -/
def execJr_NZ_e (e : Int) (s : State) : Exec := jumpRel (.base 0x20#8) (s.regs.cond .nz) e s
/-- 28, `JR Z,e` (R275). -/
def execJr_Z_e (e : Int) (s : State) : Exec := jumpRel (.base 0x28#8) (s.regs.cond .z) e s
/-- 30, `JR NC,e` (R275). -/
def execJr_NC_e (e : Int) (s : State) : Exec := jumpRel (.base 0x30#8) (s.regs.cond .nc) e s
/-- 38, `JR C,e` (R275). -/
def execJr_C_e (e : Int) (s : State) : Exec := jumpRel (.base 0x38#8) (s.regs.cond .c) e s
/-- C0, `RET NZ` (R279). -/
def execRet_NZ (s : State) : Exec := retIf (.base 0xC0#8) (s.regs.cond .nz) s
/-- C2, `JP NZ,nn` (R272). -/
def execJp_NZ_nn (nn : Word) (s : State) : Exec := jumpAbs (.base 0xC2#8) (s.regs.cond .nz) nn s
/-- C3, `JP nn` (R271). -/
def execJp_nn (nn : Word) (s : State) : Exec := jumpAbs (.base 0xC3#8) true nn s
/-- C4, `CALL NZ,nn` (R277). -/
def execCall_NZ_nn (nn : Word) (s : State) : Exec := callIf (.base 0xC4#8) (s.regs.cond .nz) nn s
/-- C7, `RST 00H` (R282). -/
def execRst_00H (s : State) : Exec := restart (.base 0xC7#8) 0 s
/-- C8, `RET Z` (R279). -/
def execRet_Z (s : State) : Exec := retIf (.base 0xC8#8) (s.regs.cond .z) s
/-- C9, `RET` (R278). -/
def execRet (s : State) : Exec := retIf (.base 0xC9#8) true s
/-- CA, `JP Z,nn` (R272). -/
def execJp_Z_nn (nn : Word) (s : State) : Exec := jumpAbs (.base 0xCA#8) (s.regs.cond .z) nn s
/-- CC, `CALL Z,nn` (R277). -/
def execCall_Z_nn (nn : Word) (s : State) : Exec := callIf (.base 0xCC#8) (s.regs.cond .z) nn s
/-- CD, `CALL nn` (R276). -/
def execCall_nn (nn : Word) (s : State) : Exec := callIf (.base 0xCD#8) true nn s
/-- CF, `RST 08H` (R282). -/
def execRst_08H (s : State) : Exec := restart (.base 0xCF#8) 1 s
/-- D0, `RET NC` (R279). -/
def execRet_NC (s : State) : Exec := retIf (.base 0xD0#8) (s.regs.cond .nc) s
/-- D2, `JP NC,nn` (R272). -/
def execJp_NC_nn (nn : Word) (s : State) : Exec := jumpAbs (.base 0xD2#8) (s.regs.cond .nc) nn s
/-- D4, `CALL NC,nn` (R277). -/
def execCall_NC_nn (nn : Word) (s : State) : Exec := callIf (.base 0xD4#8) (s.regs.cond .nc) nn s
/-- D7, `RST 10H` (R282). -/
def execRst_10H (s : State) : Exec := restart (.base 0xD7#8) 2 s
/-- D8, `RET C` (R279). -/
def execRet_C (s : State) : Exec := retIf (.base 0xD8#8) (s.regs.cond .c) s
/-- D9, `RETI` (R280). -/
def execReti (s : State) : Exec := retEnable (.base 0xD9#8) s
/-- DA, `JP C,nn` (R272). -/
def execJp_C_nn (nn : Word) (s : State) : Exec := jumpAbs (.base 0xDA#8) (s.regs.cond .c) nn s
/-- DC, `CALL C,nn` (R277). -/
def execCall_C_nn (nn : Word) (s : State) : Exec := callIf (.base 0xDC#8) (s.regs.cond .c) nn s
/-- DF, `RST 18H` (R282). -/
def execRst_18H (s : State) : Exec := restart (.base 0xDF#8) 3 s
/-- E7, `RST 20H` (R282). -/
def execRst_20H (s : State) : Exec := restart (.base 0xE7#8) 4 s
/-- E9, `JP (HL)` (R273). -/
def execJp_HL (s : State) : Exec := jumpHl (.base 0xE9#8) s
/-- EF, `RST 28H` (R282). -/
def execRst_28H (s : State) : Exec := restart (.base 0xEF#8) 5 s
/-- F7, `RST 30H` (R282). -/
def execRst_30H (s : State) : Exec := restart (.base 0xF7#8) 6 s
/-- FF, `RST 38H` (R282). -/
def execRst_38H (s : State) : Exec := restart (.base 0xFF#8) 7 s

end Sys2Proof.Machine
end

