-- ==== Sys2Proof/Machine/Load.lean ====
section
/-! DEFINITION. Loads, stores and the stack (spec/40_load_store.md). The shared operations first, then one
meaning per instruction. `op` is the dispatch-table entry whose cost is charged. -/

namespace Sys2Proof.Machine

/-- `LD r,r'` (R121). -/
def ldReg (op : Opcode) (dst r : Reg8) (s : State) : Exec :=
  complete ((s.skip 1).set8 dst (s.regs.get8 r)) (s.cost op)

/-- `LD r,(HL)` (R122). -/
def ldRegMem (op : Opcode) (dst : Reg8) (s : State) : Exec :=
  withRead s s s.regs.hl fun v => complete ((s.skip 1).set8 dst v) (s.cost op)

/-- A store of one byte by an instruction of `len` bytes (R123, R125, R128, R129, R131, R134, R136). -/
def storeByte (op : Opcode) (len : Nat) (a : Word) (v : Byte) (s : State) : Exec :=
  withWrite s (s.skip len) a v fun t => complete t (s.cost op)

/-- `LD r,n` (R124). -/
def ldRegImm (op : Opcode) (dst : Reg8) (n : Byte) (s : State) : Exec :=
  complete ((s.skip 2).set8 dst n) (s.cost op)

/-- A load of A by an instruction of `len` bytes (R126, R127, R130, R133, R135). -/
def loadAcc (op : Opcode) (len : Nat) (a : Word) (s : State) : Exec :=
  withRead s s a fun v => complete ((s.skip len).set8 .a v) (s.cost op)

/-- `LD A,(HL+)` and `LD A,(HL-)` (R137, R138): HL moves by `delta` after the read. -/
def loadAccStep (op : Opcode) (delta : Word) (s : State) : Exec :=
  let a := s.regs.hl
  withRead s s a fun v => complete (((s.skip 1).set8 .a v).set16 .hl (a + delta)) (s.cost op)

/-- `LD (HL+),A` and `LD (HL-),A` (R139, R140): HL moves by `delta` after the write. -/
def storeAccStep (op : Opcode) (delta : Word) (s : State) : Exec :=
  let a := s.regs.hl
  withWrite s (s.skip 1) a s.regs.a fun t => complete (t.set16 .hl (a + delta)) (s.cost op)

/-- `LD rr,nn` (R141). -/
def ldPairImm (op : Opcode) (dst : Reg16) (nn : Word) (s : State) : Exec :=
  complete ((s.skip 3).set16 dst nn) (s.cost op)

/-- `LD (nn),SP` (R142): the low byte at `nn`, then the high byte at `nn + 1`. -/
def storeSp (op : Opcode) (nn : Word) (s : State) : Exec :=
  withWrite s (s.skip 3) nn (loByte s.regs.sp) fun t =>
    withWrite s t (nn + 1#16) (hiByte s.regs.sp) fun u => complete u (s.cost op)

/-- `LD SP,HL` (R143). -/
def ldSpHl (op : Opcode) (s : State) : Exec := complete ((s.skip 1).setSp s.regs.hl) (s.cost op)

/-- `PUSH qq` (R152). -/
def pushReg (op : Opcode) (q : StackReg) (s : State) : Exec :=
  push16 s (s.skip 1) (s.regs.getStack q) fun t => complete t (s.cost op)

/-- `POP qq` (R153, R154). -/
def popReg (op : Opcode) (q : StackReg) (s : State) : Exec :=
  pop16 s (s.skip 1) fun v t => complete (t.setStack q v) (s.cost op)

/-! ## The meanings -/

/-- 01, `LD BC,nn` (R141). -/
def execLd_BC_nn (nn : Word) (s : State) : Exec := ldPairImm (.base 0x01#8) .bc nn s
/-- 02, `LD (BC),A` (R128). -/
def execLd_mBC_A (s : State) : Exec := storeByte (.base 0x02#8) 1 s.regs.bc s.regs.a s
/-- 06, `LD B,n` (R124). -/
def execLd_B_n (n : Byte) (s : State) : Exec := ldRegImm (.base 0x06#8) .b n s
/-- 08, `LD (nn),SP` (R142). -/
def execLd_mnn_SP (nn : Word) (s : State) : Exec := storeSp (.base 0x08#8) nn s
/-- 0A, `LD A,(BC)` (R126). -/
def execLd_A_mBC (s : State) : Exec := loadAcc (.base 0x0A#8) 1 s.regs.bc s
/-- 0E, `LD C,n` (R124). -/
def execLd_C_n (n : Byte) (s : State) : Exec := ldRegImm (.base 0x0E#8) .c n s
/-- 11, `LD DE,nn` (R141). -/
def execLd_DE_nn (nn : Word) (s : State) : Exec := ldPairImm (.base 0x11#8) .de nn s
/-- 12, `LD (DE),A` (R129). -/
def execLd_mDE_A (s : State) : Exec := storeByte (.base 0x12#8) 1 s.regs.de s.regs.a s
/-- 16, `LD D,n` (R124). -/
def execLd_D_n (n : Byte) (s : State) : Exec := ldRegImm (.base 0x16#8) .d n s
/-- 1A, `LD A,(DE)` (R127). -/
def execLd_A_mDE (s : State) : Exec := loadAcc (.base 0x1A#8) 1 s.regs.de s
/-- 1E, `LD E,n` (R124). -/
def execLd_E_n (n : Byte) (s : State) : Exec := ldRegImm (.base 0x1E#8) .e n s
/-- 21, `LD HL,nn` (R141). -/
def execLd_HL_nn (nn : Word) (s : State) : Exec := ldPairImm (.base 0x21#8) .hl nn s
/-- 22, `LD (HL+),A` (R139). -/
def execLd_mHLinc_A (s : State) : Exec := storeAccStep (.base 0x22#8) 1#16 s
/-- 26, `LD H,n` (R124). -/
def execLd_H_n (n : Byte) (s : State) : Exec := ldRegImm (.base 0x26#8) .h n s
/-- 2A, `LD A,(HL+)` (R137). -/
def execLd_A_mHLinc (s : State) : Exec := loadAccStep (.base 0x2A#8) 1#16 s
/-- 2E, `LD L,n` (R124). -/
def execLd_L_n (n : Byte) (s : State) : Exec := ldRegImm (.base 0x2E#8) .l n s
/-- 31, `LD SP,nn` (R141). -/
def execLd_SP_nn (nn : Word) (s : State) : Exec := ldPairImm (.base 0x31#8) .sp nn s
/-- 32, `LD (HL-),A` (R140). -/
def execLd_mHLdec_A (s : State) : Exec := storeAccStep (.base 0x32#8) (-1#16) s
/-- 36, `LD (HL),n` (R125). -/
def execLd_mHL_n (n : Byte) (s : State) : Exec := storeByte (.base 0x36#8) 2 s.regs.hl n s
/-- 3A, `LD A,(HL-)` (R138). -/
def execLd_A_mHLdec (s : State) : Exec := loadAccStep (.base 0x3A#8) (-1#16) s
/-- 3E, `LD A,n` (R124). -/
def execLd_A_n (n : Byte) (s : State) : Exec := ldRegImm (.base 0x3E#8) .a n s
/-- 40, `LD B,B` (R121). -/
def execLd_B_B (s : State) : Exec := ldReg (.base 0x40#8) .b .b s
/-- 41, `LD B,C` (R121). -/
def execLd_B_C (s : State) : Exec := ldReg (.base 0x41#8) .b .c s
/-- 42, `LD B,D` (R121). -/
def execLd_B_D (s : State) : Exec := ldReg (.base 0x42#8) .b .d s
/-- 43, `LD B,E` (R121). -/
def execLd_B_E (s : State) : Exec := ldReg (.base 0x43#8) .b .e s
/-- 44, `LD B,H` (R121). -/
def execLd_B_H (s : State) : Exec := ldReg (.base 0x44#8) .b .h s
/-- 45, `LD B,L` (R121). -/
def execLd_B_L (s : State) : Exec := ldReg (.base 0x45#8) .b .l s
/-- 46, `LD B,(HL)` (R122). -/
def execLd_B_mHL (s : State) : Exec := ldRegMem (.base 0x46#8) .b s
/-- 47, `LD B,A` (R121). -/
def execLd_B_A (s : State) : Exec := ldReg (.base 0x47#8) .b .a s
/-- 48, `LD C,B` (R121). -/
def execLd_C_B (s : State) : Exec := ldReg (.base 0x48#8) .c .b s
/-- 49, `LD C,C` (R121). -/
def execLd_C_C (s : State) : Exec := ldReg (.base 0x49#8) .c .c s
/-- 4A, `LD C,D` (R121). -/
def execLd_C_D (s : State) : Exec := ldReg (.base 0x4A#8) .c .d s
/-- 4B, `LD C,E` (R121). -/
def execLd_C_E (s : State) : Exec := ldReg (.base 0x4B#8) .c .e s
/-- 4C, `LD C,H` (R121). -/
def execLd_C_H (s : State) : Exec := ldReg (.base 0x4C#8) .c .h s
/-- 4D, `LD C,L` (R121). -/
def execLd_C_L (s : State) : Exec := ldReg (.base 0x4D#8) .c .l s
/-- 4E, `LD C,(HL)` (R122). -/
def execLd_C_mHL (s : State) : Exec := ldRegMem (.base 0x4E#8) .c s
/-- 4F, `LD C,A` (R121). -/
def execLd_C_A (s : State) : Exec := ldReg (.base 0x4F#8) .c .a s
/-- 50, `LD D,B` (R121). -/
def execLd_D_B (s : State) : Exec := ldReg (.base 0x50#8) .d .b s
/-- 51, `LD D,C` (R121). -/
def execLd_D_C (s : State) : Exec := ldReg (.base 0x51#8) .d .c s
/-- 52, `LD D,D` (R121). -/
def execLd_D_D (s : State) : Exec := ldReg (.base 0x52#8) .d .d s
/-- 53, `LD D,E` (R121). -/
def execLd_D_E (s : State) : Exec := ldReg (.base 0x53#8) .d .e s
/-- 54, `LD D,H` (R121). -/
def execLd_D_H (s : State) : Exec := ldReg (.base 0x54#8) .d .h s
/-- 55, `LD D,L` (R121). -/
def execLd_D_L (s : State) : Exec := ldReg (.base 0x55#8) .d .l s
/-- 56, `LD D,(HL)` (R122). -/
def execLd_D_mHL (s : State) : Exec := ldRegMem (.base 0x56#8) .d s
/-- 57, `LD D,A` (R121). -/
def execLd_D_A (s : State) : Exec := ldReg (.base 0x57#8) .d .a s
/-- 58, `LD E,B` (R121). -/
def execLd_E_B (s : State) : Exec := ldReg (.base 0x58#8) .e .b s
/-- 59, `LD E,C` (R121). -/
def execLd_E_C (s : State) : Exec := ldReg (.base 0x59#8) .e .c s
/-- 5A, `LD E,D` (R121). -/
def execLd_E_D (s : State) : Exec := ldReg (.base 0x5A#8) .e .d s
/-- 5B, `LD E,E` (R121). -/
def execLd_E_E (s : State) : Exec := ldReg (.base 0x5B#8) .e .e s
/-- 5C, `LD E,H` (R121). -/
def execLd_E_H (s : State) : Exec := ldReg (.base 0x5C#8) .e .h s
/-- 5D, `LD E,L` (R121). -/
def execLd_E_L (s : State) : Exec := ldReg (.base 0x5D#8) .e .l s
/-- 5E, `LD E,(HL)` (R122). -/
def execLd_E_mHL (s : State) : Exec := ldRegMem (.base 0x5E#8) .e s
/-- 5F, `LD E,A` (R121). -/
def execLd_E_A (s : State) : Exec := ldReg (.base 0x5F#8) .e .a s
/-- 60, `LD H,B` (R121). -/
def execLd_H_B (s : State) : Exec := ldReg (.base 0x60#8) .h .b s
/-- 61, `LD H,C` (R121). -/
def execLd_H_C (s : State) : Exec := ldReg (.base 0x61#8) .h .c s
/-- 62, `LD H,D` (R121). -/
def execLd_H_D (s : State) : Exec := ldReg (.base 0x62#8) .h .d s
/-- 63, `LD H,E` (R121). -/
def execLd_H_E (s : State) : Exec := ldReg (.base 0x63#8) .h .e s
/-- 64, `LD H,H` (R121). -/
def execLd_H_H (s : State) : Exec := ldReg (.base 0x64#8) .h .h s
/-- 65, `LD H,L` (R121). -/
def execLd_H_L (s : State) : Exec := ldReg (.base 0x65#8) .h .l s
/-- 66, `LD H,(HL)` (R122). -/
def execLd_H_mHL (s : State) : Exec := ldRegMem (.base 0x66#8) .h s
/-- 67, `LD H,A` (R121). -/
def execLd_H_A (s : State) : Exec := ldReg (.base 0x67#8) .h .a s
/-- 68, `LD L,B` (R121). -/
def execLd_L_B (s : State) : Exec := ldReg (.base 0x68#8) .l .b s
/-- 69, `LD L,C` (R121). -/
def execLd_L_C (s : State) : Exec := ldReg (.base 0x69#8) .l .c s
/-- 6A, `LD L,D` (R121). -/
def execLd_L_D (s : State) : Exec := ldReg (.base 0x6A#8) .l .d s
/-- 6B, `LD L,E` (R121). -/
def execLd_L_E (s : State) : Exec := ldReg (.base 0x6B#8) .l .e s
/-- 6C, `LD L,H` (R121). -/
def execLd_L_H (s : State) : Exec := ldReg (.base 0x6C#8) .l .h s
/-- 6D, `LD L,L` (R121). -/
def execLd_L_L (s : State) : Exec := ldReg (.base 0x6D#8) .l .l s
/-- 6E, `LD L,(HL)` (R122). -/
def execLd_L_mHL (s : State) : Exec := ldRegMem (.base 0x6E#8) .l s
/-- 6F, `LD L,A` (R121). -/
def execLd_L_A (s : State) : Exec := ldReg (.base 0x6F#8) .l .a s
/-- 70, `LD (HL),B` (R123). -/
def execLd_mHL_B (s : State) : Exec := storeByte (.base 0x70#8) 1 s.regs.hl (s.regs.get8 .b) s
/-- 71, `LD (HL),C` (R123). -/
def execLd_mHL_C (s : State) : Exec := storeByte (.base 0x71#8) 1 s.regs.hl (s.regs.get8 .c) s
/-- 72, `LD (HL),D` (R123). -/
def execLd_mHL_D (s : State) : Exec := storeByte (.base 0x72#8) 1 s.regs.hl (s.regs.get8 .d) s
/-- 73, `LD (HL),E` (R123). -/
def execLd_mHL_E (s : State) : Exec := storeByte (.base 0x73#8) 1 s.regs.hl (s.regs.get8 .e) s
/-- 74, `LD (HL),H` (R123). -/
def execLd_mHL_H (s : State) : Exec := storeByte (.base 0x74#8) 1 s.regs.hl (s.regs.get8 .h) s
/-- 75, `LD (HL),L` (R123). -/
def execLd_mHL_L (s : State) : Exec := storeByte (.base 0x75#8) 1 s.regs.hl (s.regs.get8 .l) s
/-- 77, `LD (HL),A` (R123). -/
def execLd_mHL_A (s : State) : Exec := storeByte (.base 0x77#8) 1 s.regs.hl (s.regs.get8 .a) s
/-- 78, `LD A,B` (R121). -/
def execLd_A_B (s : State) : Exec := ldReg (.base 0x78#8) .a .b s
/-- 79, `LD A,C` (R121). -/
def execLd_A_C (s : State) : Exec := ldReg (.base 0x79#8) .a .c s
/-- 7A, `LD A,D` (R121). -/
def execLd_A_D (s : State) : Exec := ldReg (.base 0x7A#8) .a .d s
/-- 7B, `LD A,E` (R121). -/
def execLd_A_E (s : State) : Exec := ldReg (.base 0x7B#8) .a .e s
/-- 7C, `LD A,H` (R121). -/
def execLd_A_H (s : State) : Exec := ldReg (.base 0x7C#8) .a .h s
/-- 7D, `LD A,L` (R121). -/
def execLd_A_L (s : State) : Exec := ldReg (.base 0x7D#8) .a .l s
/-- 7E, `LD A,(HL)` (R122). -/
def execLd_A_mHL (s : State) : Exec := ldRegMem (.base 0x7E#8) .a s
/-- 7F, `LD A,A` (R121). -/
def execLd_A_A (s : State) : Exec := ldReg (.base 0x7F#8) .a .a s
/-- C1, `POP BC` (R154). -/
def execPop_BC (s : State) : Exec := popReg (.base 0xC1#8) .bc s
/-- C5, `PUSH BC` (R152). -/
def execPush_BC (s : State) : Exec := pushReg (.base 0xC5#8) .bc s
/-- D1, `POP DE` (R154). -/
def execPop_DE (s : State) : Exec := popReg (.base 0xD1#8) .de s
/-- D5, `PUSH DE` (R152). -/
def execPush_DE (s : State) : Exec := pushReg (.base 0xD5#8) .de s
/-- E0, `LDH (n),A` (R134). -/
def execLdh_ion_A (n : Byte) (s : State) : Exec := storeByte (.base 0xE0#8) 2 (ioAddr n) s.regs.a s
/-- E1, `POP HL` (R154). -/
def execPop_HL (s : State) : Exec := popReg (.base 0xE1#8) .hl s
/-- E2, `LD (C),A` (R136). -/
def execLd_ioC_A (s : State) : Exec := storeByte (.base 0xE2#8) 1 (ioAddr s.regs.c) s.regs.a s
/-- E5, `PUSH HL` (R152). -/
def execPush_HL (s : State) : Exec := pushReg (.base 0xE5#8) .hl s
/-- EA, `LD (nn),A` (R131). -/
def execLd_mnn_A (nn : Word) (s : State) : Exec := storeByte (.base 0xEA#8) 3 nn s.regs.a s
/-- F0, `LDH A,(n)` (R133). -/
def execLdh_A_ion (n : Byte) (s : State) : Exec := loadAcc (.base 0xF0#8) 2 (ioAddr n) s
/-- F1, `POP AF` (R153). -/
def execPop_AF (s : State) : Exec := popReg (.base 0xF1#8) .af s
/-- F2, `LD A,(C)` (R135). -/
def execLd_A_ioC (s : State) : Exec := loadAcc (.base 0xF2#8) 1 (ioAddr s.regs.c) s
/-- F5, `PUSH AF` (R152). -/
def execPush_AF (s : State) : Exec := pushReg (.base 0xF5#8) .af s
/-- F9, `LD SP,HL` (R143). -/
def execLd_SP_HL (s : State) : Exec := ldSpHl (.base 0xF9#8) s
/-- FA, `LD A,(nn)` (R130). -/
def execLd_A_mnn (nn : Word) (s : State) : Exec := loadAcc (.base 0xFA#8) 3 nn s

end Sys2Proof.Machine
end

