-- ==== Sys2Proof/Machine/RotShiftBit.lean ====
section
/-! DEFINITION. Rotates, shifts and bit operations (spec/43_rotate_shift_bit.md). -/

namespace Sys2Proof.Machine

/-- An accumulator rotate (R232 to R235). -/
def accRotate (op : Opcode) (f : RotOp) (s : State) : Exec :=
  complete ((s.skip 1).mapRegs (·.accRotate s.cfg.accRotateZ f)) (s.cost op)

/-- A CB rotate, shift or swap on a register or the byte at HL (R231, R236 to R251). -/
def rotSrc (op : Opcode) (f : RotOp) (x : Src8) (s : State) : Exec :=
  withSrc s s x fun v =>
    withDst s (s.skip 2) x (rotFn f v s.regs.cf).res fun t =>
      complete (t.mapRegs (·.rotFlags (rotFn f v s.regs.cf))) (s.cost op)

/-- `BIT b` on a register or the byte at HL (R252, R253): nothing is written but the flags. -/
def bitSrc (op : Opcode) (b : Fin 8) (x : Src8) (s : State) : Exec :=
  withSrc s s x fun v => complete ((s.skip 2).mapRegs (·.bitFlags b v)) (s.cost op)

/-- `RES b` and `SET b` on a register or the byte at HL (R254 to R257): the write always happens. -/
def changeBit (op : Opcode) (f : Byte → Byte) (x : Src8) (s : State) : Exec :=
  withSrc s s x fun v => withDst s (s.skip 2) x (f v) fun t => complete t (s.cost op)

/-! ## The meanings -/

/-- 07, `RLCA` (R232). -/
def execRlca (s : State) : Exec := accRotate (.base 0x07#8) .rlc s
/-- 0F, `RRCA` (R233). -/
def execRrca (s : State) : Exec := accRotate (.base 0x0F#8) .rrc s
/-- 17, `RLA` (R234). -/
def execRla (s : State) : Exec := accRotate (.base 0x17#8) .rl s
/-- 1F, `RRA` (R235). -/
def execRra (s : State) : Exec := accRotate (.base 0x1F#8) .rr s
/-- CB 00, `RLC B` (R236). -/
def execRlc_B (s : State) : Exec := rotSrc (.cb 0x00#8) .rlc (.reg .b) s
/-- CB 01, `RLC C` (R236). -/
def execRlc_C (s : State) : Exec := rotSrc (.cb 0x01#8) .rlc (.reg .c) s
/-- CB 02, `RLC D` (R236). -/
def execRlc_D (s : State) : Exec := rotSrc (.cb 0x02#8) .rlc (.reg .d) s
/-- CB 03, `RLC E` (R236). -/
def execRlc_E (s : State) : Exec := rotSrc (.cb 0x03#8) .rlc (.reg .e) s
/-- CB 04, `RLC H` (R236). -/
def execRlc_H (s : State) : Exec := rotSrc (.cb 0x04#8) .rlc (.reg .h) s
/-- CB 05, `RLC L` (R236). -/
def execRlc_L (s : State) : Exec := rotSrc (.cb 0x05#8) .rlc (.reg .l) s
/-- CB 06, `RLC (HL)` (R237). -/
def execRlc_mHL (s : State) : Exec := rotSrc (.cb 0x06#8) .rlc .mHL s
/-- CB 07, `RLC A` (R236). -/
def execRlc_A (s : State) : Exec := rotSrc (.cb 0x07#8) .rlc (.reg .a) s
/-- CB 08, `RRC B` (R238). -/
def execRrc_B (s : State) : Exec := rotSrc (.cb 0x08#8) .rrc (.reg .b) s
/-- CB 09, `RRC C` (R238). -/
def execRrc_C (s : State) : Exec := rotSrc (.cb 0x09#8) .rrc (.reg .c) s
/-- CB 0A, `RRC D` (R238). -/
def execRrc_D (s : State) : Exec := rotSrc (.cb 0x0A#8) .rrc (.reg .d) s
/-- CB 0B, `RRC E` (R238). -/
def execRrc_E (s : State) : Exec := rotSrc (.cb 0x0B#8) .rrc (.reg .e) s
/-- CB 0C, `RRC H` (R238). -/
def execRrc_H (s : State) : Exec := rotSrc (.cb 0x0C#8) .rrc (.reg .h) s
/-- CB 0D, `RRC L` (R238). -/
def execRrc_L (s : State) : Exec := rotSrc (.cb 0x0D#8) .rrc (.reg .l) s
/-- CB 0E, `RRC (HL)` (R239). -/
def execRrc_mHL (s : State) : Exec := rotSrc (.cb 0x0E#8) .rrc .mHL s
/-- CB 0F, `RRC A` (R238). -/
def execRrc_A (s : State) : Exec := rotSrc (.cb 0x0F#8) .rrc (.reg .a) s
/-- CB 10, `RL B` (R240). -/
def execRl_B (s : State) : Exec := rotSrc (.cb 0x10#8) .rl (.reg .b) s
/-- CB 11, `RL C` (R240). -/
def execRl_C (s : State) : Exec := rotSrc (.cb 0x11#8) .rl (.reg .c) s
/-- CB 12, `RL D` (R240). -/
def execRl_D (s : State) : Exec := rotSrc (.cb 0x12#8) .rl (.reg .d) s
/-- CB 13, `RL E` (R240). -/
def execRl_E (s : State) : Exec := rotSrc (.cb 0x13#8) .rl (.reg .e) s
/-- CB 14, `RL H` (R240). -/
def execRl_H (s : State) : Exec := rotSrc (.cb 0x14#8) .rl (.reg .h) s
/-- CB 15, `RL L` (R240). -/
def execRl_L (s : State) : Exec := rotSrc (.cb 0x15#8) .rl (.reg .l) s
/-- CB 16, `RL (HL)` (R241). -/
def execRl_mHL (s : State) : Exec := rotSrc (.cb 0x16#8) .rl .mHL s
/-- CB 17, `RL A` (R240). -/
def execRl_A (s : State) : Exec := rotSrc (.cb 0x17#8) .rl (.reg .a) s
/-- CB 18, `RR B` (R242). -/
def execRr_B (s : State) : Exec := rotSrc (.cb 0x18#8) .rr (.reg .b) s
/-- CB 19, `RR C` (R242). -/
def execRr_C (s : State) : Exec := rotSrc (.cb 0x19#8) .rr (.reg .c) s
/-- CB 1A, `RR D` (R242). -/
def execRr_D (s : State) : Exec := rotSrc (.cb 0x1A#8) .rr (.reg .d) s
/-- CB 1B, `RR E` (R242). -/
def execRr_E (s : State) : Exec := rotSrc (.cb 0x1B#8) .rr (.reg .e) s
/-- CB 1C, `RR H` (R242). -/
def execRr_H (s : State) : Exec := rotSrc (.cb 0x1C#8) .rr (.reg .h) s
/-- CB 1D, `RR L` (R242). -/
def execRr_L (s : State) : Exec := rotSrc (.cb 0x1D#8) .rr (.reg .l) s
/-- CB 1E, `RR (HL)` (R243). -/
def execRr_mHL (s : State) : Exec := rotSrc (.cb 0x1E#8) .rr .mHL s
/-- CB 1F, `RR A` (R242). -/
def execRr_A (s : State) : Exec := rotSrc (.cb 0x1F#8) .rr (.reg .a) s
/-- CB 20, `SLA B` (R244). -/
def execSla_B (s : State) : Exec := rotSrc (.cb 0x20#8) .sla (.reg .b) s
/-- CB 21, `SLA C` (R244). -/
def execSla_C (s : State) : Exec := rotSrc (.cb 0x21#8) .sla (.reg .c) s
/-- CB 22, `SLA D` (R244). -/
def execSla_D (s : State) : Exec := rotSrc (.cb 0x22#8) .sla (.reg .d) s
/-- CB 23, `SLA E` (R244). -/
def execSla_E (s : State) : Exec := rotSrc (.cb 0x23#8) .sla (.reg .e) s
/-- CB 24, `SLA H` (R244). -/
def execSla_H (s : State) : Exec := rotSrc (.cb 0x24#8) .sla (.reg .h) s
/-- CB 25, `SLA L` (R244). -/
def execSla_L (s : State) : Exec := rotSrc (.cb 0x25#8) .sla (.reg .l) s
/-- CB 26, `SLA (HL)` (R245). -/
def execSla_mHL (s : State) : Exec := rotSrc (.cb 0x26#8) .sla .mHL s
/-- CB 27, `SLA A` (R244). -/
def execSla_A (s : State) : Exec := rotSrc (.cb 0x27#8) .sla (.reg .a) s
/-- CB 28, `SRA B` (R246). -/
def execSra_B (s : State) : Exec := rotSrc (.cb 0x28#8) .sra (.reg .b) s
/-- CB 29, `SRA C` (R246). -/
def execSra_C (s : State) : Exec := rotSrc (.cb 0x29#8) .sra (.reg .c) s
/-- CB 2A, `SRA D` (R246). -/
def execSra_D (s : State) : Exec := rotSrc (.cb 0x2A#8) .sra (.reg .d) s
/-- CB 2B, `SRA E` (R246). -/
def execSra_E (s : State) : Exec := rotSrc (.cb 0x2B#8) .sra (.reg .e) s
/-- CB 2C, `SRA H` (R246). -/
def execSra_H (s : State) : Exec := rotSrc (.cb 0x2C#8) .sra (.reg .h) s
/-- CB 2D, `SRA L` (R246). -/
def execSra_L (s : State) : Exec := rotSrc (.cb 0x2D#8) .sra (.reg .l) s
/-- CB 2E, `SRA (HL)` (R247). -/
def execSra_mHL (s : State) : Exec := rotSrc (.cb 0x2E#8) .sra .mHL s
/-- CB 2F, `SRA A` (R246). -/
def execSra_A (s : State) : Exec := rotSrc (.cb 0x2F#8) .sra (.reg .a) s
/-- CB 30, `SWAP B` (R248). -/
def execSwap_B (s : State) : Exec := rotSrc (.cb 0x30#8) .swap (.reg .b) s
/-- CB 31, `SWAP C` (R248). -/
def execSwap_C (s : State) : Exec := rotSrc (.cb 0x31#8) .swap (.reg .c) s
/-- CB 32, `SWAP D` (R248). -/
def execSwap_D (s : State) : Exec := rotSrc (.cb 0x32#8) .swap (.reg .d) s
/-- CB 33, `SWAP E` (R248). -/
def execSwap_E (s : State) : Exec := rotSrc (.cb 0x33#8) .swap (.reg .e) s
/-- CB 34, `SWAP H` (R248). -/
def execSwap_H (s : State) : Exec := rotSrc (.cb 0x34#8) .swap (.reg .h) s
/-- CB 35, `SWAP L` (R248). -/
def execSwap_L (s : State) : Exec := rotSrc (.cb 0x35#8) .swap (.reg .l) s
/-- CB 36, `SWAP (HL)` (R249). -/
def execSwap_mHL (s : State) : Exec := rotSrc (.cb 0x36#8) .swap .mHL s
/-- CB 37, `SWAP A` (R248). -/
def execSwap_A (s : State) : Exec := rotSrc (.cb 0x37#8) .swap (.reg .a) s
/-- CB 38, `SRL B` (R250). -/
def execSrl_B (s : State) : Exec := rotSrc (.cb 0x38#8) .srl (.reg .b) s
/-- CB 39, `SRL C` (R250). -/
def execSrl_C (s : State) : Exec := rotSrc (.cb 0x39#8) .srl (.reg .c) s
/-- CB 3A, `SRL D` (R250). -/
def execSrl_D (s : State) : Exec := rotSrc (.cb 0x3A#8) .srl (.reg .d) s
/-- CB 3B, `SRL E` (R250). -/
def execSrl_E (s : State) : Exec := rotSrc (.cb 0x3B#8) .srl (.reg .e) s
/-- CB 3C, `SRL H` (R250). -/
def execSrl_H (s : State) : Exec := rotSrc (.cb 0x3C#8) .srl (.reg .h) s
/-- CB 3D, `SRL L` (R250). -/
def execSrl_L (s : State) : Exec := rotSrc (.cb 0x3D#8) .srl (.reg .l) s
/-- CB 3E, `SRL (HL)` (R251). -/
def execSrl_mHL (s : State) : Exec := rotSrc (.cb 0x3E#8) .srl .mHL s
/-- CB 3F, `SRL A` (R250). -/
def execSrl_A (s : State) : Exec := rotSrc (.cb 0x3F#8) .srl (.reg .a) s
/-- CB 40, `BIT 0,B` (R252). -/
def execBit_0_B (s : State) : Exec := bitSrc (.cb 0x40#8) 0 (.reg .b) s
/-- CB 41, `BIT 0,C` (R252). -/
def execBit_0_C (s : State) : Exec := bitSrc (.cb 0x41#8) 0 (.reg .c) s
/-- CB 42, `BIT 0,D` (R252). -/
def execBit_0_D (s : State) : Exec := bitSrc (.cb 0x42#8) 0 (.reg .d) s
/-- CB 43, `BIT 0,E` (R252). -/
def execBit_0_E (s : State) : Exec := bitSrc (.cb 0x43#8) 0 (.reg .e) s
/-- CB 44, `BIT 0,H` (R252). -/
def execBit_0_H (s : State) : Exec := bitSrc (.cb 0x44#8) 0 (.reg .h) s
/-- CB 45, `BIT 0,L` (R252). -/
def execBit_0_L (s : State) : Exec := bitSrc (.cb 0x45#8) 0 (.reg .l) s
/-- CB 46, `BIT 0,(HL)` (R253). -/
def execBit_0_mHL (s : State) : Exec := bitSrc (.cb 0x46#8) 0 .mHL s
/-- CB 47, `BIT 0,A` (R252). -/
def execBit_0_A (s : State) : Exec := bitSrc (.cb 0x47#8) 0 (.reg .a) s
/-- CB 48, `BIT 1,B` (R252). -/
def execBit_1_B (s : State) : Exec := bitSrc (.cb 0x48#8) 1 (.reg .b) s
/-- CB 49, `BIT 1,C` (R252). -/
def execBit_1_C (s : State) : Exec := bitSrc (.cb 0x49#8) 1 (.reg .c) s
/-- CB 4A, `BIT 1,D` (R252). -/
def execBit_1_D (s : State) : Exec := bitSrc (.cb 0x4A#8) 1 (.reg .d) s
/-- CB 4B, `BIT 1,E` (R252). -/
def execBit_1_E (s : State) : Exec := bitSrc (.cb 0x4B#8) 1 (.reg .e) s
/-- CB 4C, `BIT 1,H` (R252). -/
def execBit_1_H (s : State) : Exec := bitSrc (.cb 0x4C#8) 1 (.reg .h) s
/-- CB 4D, `BIT 1,L` (R252). -/
def execBit_1_L (s : State) : Exec := bitSrc (.cb 0x4D#8) 1 (.reg .l) s
/-- CB 4E, `BIT 1,(HL)` (R253). -/
def execBit_1_mHL (s : State) : Exec := bitSrc (.cb 0x4E#8) 1 .mHL s
/-- CB 4F, `BIT 1,A` (R252). -/
def execBit_1_A (s : State) : Exec := bitSrc (.cb 0x4F#8) 1 (.reg .a) s
/-- CB 50, `BIT 2,B` (R252). -/
def execBit_2_B (s : State) : Exec := bitSrc (.cb 0x50#8) 2 (.reg .b) s
/-- CB 51, `BIT 2,C` (R252). -/
def execBit_2_C (s : State) : Exec := bitSrc (.cb 0x51#8) 2 (.reg .c) s
/-- CB 52, `BIT 2,D` (R252). -/
def execBit_2_D (s : State) : Exec := bitSrc (.cb 0x52#8) 2 (.reg .d) s
/-- CB 53, `BIT 2,E` (R252). -/
def execBit_2_E (s : State) : Exec := bitSrc (.cb 0x53#8) 2 (.reg .e) s
/-- CB 54, `BIT 2,H` (R252). -/
def execBit_2_H (s : State) : Exec := bitSrc (.cb 0x54#8) 2 (.reg .h) s
/-- CB 55, `BIT 2,L` (R252). -/
def execBit_2_L (s : State) : Exec := bitSrc (.cb 0x55#8) 2 (.reg .l) s
/-- CB 56, `BIT 2,(HL)` (R253). -/
def execBit_2_mHL (s : State) : Exec := bitSrc (.cb 0x56#8) 2 .mHL s
/-- CB 57, `BIT 2,A` (R252). -/
def execBit_2_A (s : State) : Exec := bitSrc (.cb 0x57#8) 2 (.reg .a) s
/-- CB 58, `BIT 3,B` (R252). -/
def execBit_3_B (s : State) : Exec := bitSrc (.cb 0x58#8) 3 (.reg .b) s
/-- CB 59, `BIT 3,C` (R252). -/
def execBit_3_C (s : State) : Exec := bitSrc (.cb 0x59#8) 3 (.reg .c) s
/-- CB 5A, `BIT 3,D` (R252). -/
def execBit_3_D (s : State) : Exec := bitSrc (.cb 0x5A#8) 3 (.reg .d) s
/-- CB 5B, `BIT 3,E` (R252). -/
def execBit_3_E (s : State) : Exec := bitSrc (.cb 0x5B#8) 3 (.reg .e) s
/-- CB 5C, `BIT 3,H` (R252). -/
def execBit_3_H (s : State) : Exec := bitSrc (.cb 0x5C#8) 3 (.reg .h) s
/-- CB 5D, `BIT 3,L` (R252). -/
def execBit_3_L (s : State) : Exec := bitSrc (.cb 0x5D#8) 3 (.reg .l) s
/-- CB 5E, `BIT 3,(HL)` (R253). -/
def execBit_3_mHL (s : State) : Exec := bitSrc (.cb 0x5E#8) 3 .mHL s
/-- CB 5F, `BIT 3,A` (R252). -/
def execBit_3_A (s : State) : Exec := bitSrc (.cb 0x5F#8) 3 (.reg .a) s
/-- CB 60, `BIT 4,B` (R252). -/
def execBit_4_B (s : State) : Exec := bitSrc (.cb 0x60#8) 4 (.reg .b) s
/-- CB 61, `BIT 4,C` (R252). -/
def execBit_4_C (s : State) : Exec := bitSrc (.cb 0x61#8) 4 (.reg .c) s
/-- CB 62, `BIT 4,D` (R252). -/
def execBit_4_D (s : State) : Exec := bitSrc (.cb 0x62#8) 4 (.reg .d) s
/-- CB 63, `BIT 4,E` (R252). -/
def execBit_4_E (s : State) : Exec := bitSrc (.cb 0x63#8) 4 (.reg .e) s
/-- CB 64, `BIT 4,H` (R252). -/
def execBit_4_H (s : State) : Exec := bitSrc (.cb 0x64#8) 4 (.reg .h) s
/-- CB 65, `BIT 4,L` (R252). -/
def execBit_4_L (s : State) : Exec := bitSrc (.cb 0x65#8) 4 (.reg .l) s
/-- CB 66, `BIT 4,(HL)` (R253). -/
def execBit_4_mHL (s : State) : Exec := bitSrc (.cb 0x66#8) 4 .mHL s
/-- CB 67, `BIT 4,A` (R252). -/
def execBit_4_A (s : State) : Exec := bitSrc (.cb 0x67#8) 4 (.reg .a) s
/-- CB 68, `BIT 5,B` (R252). -/
def execBit_5_B (s : State) : Exec := bitSrc (.cb 0x68#8) 5 (.reg .b) s
/-- CB 69, `BIT 5,C` (R252). -/
def execBit_5_C (s : State) : Exec := bitSrc (.cb 0x69#8) 5 (.reg .c) s
/-- CB 6A, `BIT 5,D` (R252). -/
def execBit_5_D (s : State) : Exec := bitSrc (.cb 0x6A#8) 5 (.reg .d) s
/-- CB 6B, `BIT 5,E` (R252). -/
def execBit_5_E (s : State) : Exec := bitSrc (.cb 0x6B#8) 5 (.reg .e) s
/-- CB 6C, `BIT 5,H` (R252). -/
def execBit_5_H (s : State) : Exec := bitSrc (.cb 0x6C#8) 5 (.reg .h) s
/-- CB 6D, `BIT 5,L` (R252). -/
def execBit_5_L (s : State) : Exec := bitSrc (.cb 0x6D#8) 5 (.reg .l) s
/-- CB 6E, `BIT 5,(HL)` (R253). -/
def execBit_5_mHL (s : State) : Exec := bitSrc (.cb 0x6E#8) 5 .mHL s
/-- CB 6F, `BIT 5,A` (R252). -/
def execBit_5_A (s : State) : Exec := bitSrc (.cb 0x6F#8) 5 (.reg .a) s
/-- CB 70, `BIT 6,B` (R252). -/
def execBit_6_B (s : State) : Exec := bitSrc (.cb 0x70#8) 6 (.reg .b) s
/-- CB 71, `BIT 6,C` (R252). -/
def execBit_6_C (s : State) : Exec := bitSrc (.cb 0x71#8) 6 (.reg .c) s
/-- CB 72, `BIT 6,D` (R252). -/
def execBit_6_D (s : State) : Exec := bitSrc (.cb 0x72#8) 6 (.reg .d) s
/-- CB 73, `BIT 6,E` (R252). -/
def execBit_6_E (s : State) : Exec := bitSrc (.cb 0x73#8) 6 (.reg .e) s
/-- CB 74, `BIT 6,H` (R252). -/
def execBit_6_H (s : State) : Exec := bitSrc (.cb 0x74#8) 6 (.reg .h) s
/-- CB 75, `BIT 6,L` (R252). -/
def execBit_6_L (s : State) : Exec := bitSrc (.cb 0x75#8) 6 (.reg .l) s
/-- CB 76, `BIT 6,(HL)` (R253). -/
def execBit_6_mHL (s : State) : Exec := bitSrc (.cb 0x76#8) 6 .mHL s
/-- CB 77, `BIT 6,A` (R252). -/
def execBit_6_A (s : State) : Exec := bitSrc (.cb 0x77#8) 6 (.reg .a) s
/-- CB 78, `BIT 7,B` (R252). -/
def execBit_7_B (s : State) : Exec := bitSrc (.cb 0x78#8) 7 (.reg .b) s
/-- CB 79, `BIT 7,C` (R252). -/
def execBit_7_C (s : State) : Exec := bitSrc (.cb 0x79#8) 7 (.reg .c) s
/-- CB 7A, `BIT 7,D` (R252). -/
def execBit_7_D (s : State) : Exec := bitSrc (.cb 0x7A#8) 7 (.reg .d) s
/-- CB 7B, `BIT 7,E` (R252). -/
def execBit_7_E (s : State) : Exec := bitSrc (.cb 0x7B#8) 7 (.reg .e) s
/-- CB 7C, `BIT 7,H` (R252). -/
def execBit_7_H (s : State) : Exec := bitSrc (.cb 0x7C#8) 7 (.reg .h) s
/-- CB 7D, `BIT 7,L` (R252). -/
def execBit_7_L (s : State) : Exec := bitSrc (.cb 0x7D#8) 7 (.reg .l) s
/-- CB 7E, `BIT 7,(HL)` (R253). -/
def execBit_7_mHL (s : State) : Exec := bitSrc (.cb 0x7E#8) 7 .mHL s
/-- CB 7F, `BIT 7,A` (R252). -/
def execBit_7_A (s : State) : Exec := bitSrc (.cb 0x7F#8) 7 (.reg .a) s
/-- CB 80, `RES 0,B` (R254). -/
def execRes_0_B (s : State) : Exec := changeBit (.cb 0x80#8) (resBit 0) (.reg .b) s
/-- CB 81, `RES 0,C` (R254). -/
def execRes_0_C (s : State) : Exec := changeBit (.cb 0x81#8) (resBit 0) (.reg .c) s
/-- CB 82, `RES 0,D` (R254). -/
def execRes_0_D (s : State) : Exec := changeBit (.cb 0x82#8) (resBit 0) (.reg .d) s
/-- CB 83, `RES 0,E` (R254). -/
def execRes_0_E (s : State) : Exec := changeBit (.cb 0x83#8) (resBit 0) (.reg .e) s
/-- CB 84, `RES 0,H` (R254). -/
def execRes_0_H (s : State) : Exec := changeBit (.cb 0x84#8) (resBit 0) (.reg .h) s
/-- CB 85, `RES 0,L` (R254). -/
def execRes_0_L (s : State) : Exec := changeBit (.cb 0x85#8) (resBit 0) (.reg .l) s
/-- CB 86, `RES 0,(HL)` (R255). -/
def execRes_0_mHL (s : State) : Exec := changeBit (.cb 0x86#8) (resBit 0) .mHL s
/-- CB 87, `RES 0,A` (R254). -/
def execRes_0_A (s : State) : Exec := changeBit (.cb 0x87#8) (resBit 0) (.reg .a) s
/-- CB 88, `RES 1,B` (R254). -/
def execRes_1_B (s : State) : Exec := changeBit (.cb 0x88#8) (resBit 1) (.reg .b) s
/-- CB 89, `RES 1,C` (R254). -/
def execRes_1_C (s : State) : Exec := changeBit (.cb 0x89#8) (resBit 1) (.reg .c) s
/-- CB 8A, `RES 1,D` (R254). -/
def execRes_1_D (s : State) : Exec := changeBit (.cb 0x8A#8) (resBit 1) (.reg .d) s
/-- CB 8B, `RES 1,E` (R254). -/
def execRes_1_E (s : State) : Exec := changeBit (.cb 0x8B#8) (resBit 1) (.reg .e) s
/-- CB 8C, `RES 1,H` (R254). -/
def execRes_1_H (s : State) : Exec := changeBit (.cb 0x8C#8) (resBit 1) (.reg .h) s
/-- CB 8D, `RES 1,L` (R254). -/
def execRes_1_L (s : State) : Exec := changeBit (.cb 0x8D#8) (resBit 1) (.reg .l) s
/-- CB 8E, `RES 1,(HL)` (R255). -/
def execRes_1_mHL (s : State) : Exec := changeBit (.cb 0x8E#8) (resBit 1) .mHL s
/-- CB 8F, `RES 1,A` (R254). -/
def execRes_1_A (s : State) : Exec := changeBit (.cb 0x8F#8) (resBit 1) (.reg .a) s
/-- CB 90, `RES 2,B` (R254). -/
def execRes_2_B (s : State) : Exec := changeBit (.cb 0x90#8) (resBit 2) (.reg .b) s
/-- CB 91, `RES 2,C` (R254). -/
def execRes_2_C (s : State) : Exec := changeBit (.cb 0x91#8) (resBit 2) (.reg .c) s
/-- CB 92, `RES 2,D` (R254). -/
def execRes_2_D (s : State) : Exec := changeBit (.cb 0x92#8) (resBit 2) (.reg .d) s
/-- CB 93, `RES 2,E` (R254). -/
def execRes_2_E (s : State) : Exec := changeBit (.cb 0x93#8) (resBit 2) (.reg .e) s
/-- CB 94, `RES 2,H` (R254). -/
def execRes_2_H (s : State) : Exec := changeBit (.cb 0x94#8) (resBit 2) (.reg .h) s
/-- CB 95, `RES 2,L` (R254). -/
def execRes_2_L (s : State) : Exec := changeBit (.cb 0x95#8) (resBit 2) (.reg .l) s
/-- CB 96, `RES 2,(HL)` (R255). -/
def execRes_2_mHL (s : State) : Exec := changeBit (.cb 0x96#8) (resBit 2) .mHL s
/-- CB 97, `RES 2,A` (R254). -/
def execRes_2_A (s : State) : Exec := changeBit (.cb 0x97#8) (resBit 2) (.reg .a) s
/-- CB 98, `RES 3,B` (R254). -/
def execRes_3_B (s : State) : Exec := changeBit (.cb 0x98#8) (resBit 3) (.reg .b) s
/-- CB 99, `RES 3,C` (R254). -/
def execRes_3_C (s : State) : Exec := changeBit (.cb 0x99#8) (resBit 3) (.reg .c) s
/-- CB 9A, `RES 3,D` (R254). -/
def execRes_3_D (s : State) : Exec := changeBit (.cb 0x9A#8) (resBit 3) (.reg .d) s
/-- CB 9B, `RES 3,E` (R254). -/
def execRes_3_E (s : State) : Exec := changeBit (.cb 0x9B#8) (resBit 3) (.reg .e) s
/-- CB 9C, `RES 3,H` (R254). -/
def execRes_3_H (s : State) : Exec := changeBit (.cb 0x9C#8) (resBit 3) (.reg .h) s
/-- CB 9D, `RES 3,L` (R254). -/
def execRes_3_L (s : State) : Exec := changeBit (.cb 0x9D#8) (resBit 3) (.reg .l) s
/-- CB 9E, `RES 3,(HL)` (R255). -/
def execRes_3_mHL (s : State) : Exec := changeBit (.cb 0x9E#8) (resBit 3) .mHL s
/-- CB 9F, `RES 3,A` (R254). -/
def execRes_3_A (s : State) : Exec := changeBit (.cb 0x9F#8) (resBit 3) (.reg .a) s
/-- CB A0, `RES 4,B` (R254). -/
def execRes_4_B (s : State) : Exec := changeBit (.cb 0xA0#8) (resBit 4) (.reg .b) s
/-- CB A1, `RES 4,C` (R254). -/
def execRes_4_C (s : State) : Exec := changeBit (.cb 0xA1#8) (resBit 4) (.reg .c) s
/-- CB A2, `RES 4,D` (R254). -/
def execRes_4_D (s : State) : Exec := changeBit (.cb 0xA2#8) (resBit 4) (.reg .d) s
/-- CB A3, `RES 4,E` (R254). -/
def execRes_4_E (s : State) : Exec := changeBit (.cb 0xA3#8) (resBit 4) (.reg .e) s
/-- CB A4, `RES 4,H` (R254). -/
def execRes_4_H (s : State) : Exec := changeBit (.cb 0xA4#8) (resBit 4) (.reg .h) s
/-- CB A5, `RES 4,L` (R254). -/
def execRes_4_L (s : State) : Exec := changeBit (.cb 0xA5#8) (resBit 4) (.reg .l) s
/-- CB A6, `RES 4,(HL)` (R255). -/
def execRes_4_mHL (s : State) : Exec := changeBit (.cb 0xA6#8) (resBit 4) .mHL s
/-- CB A7, `RES 4,A` (R254). -/
def execRes_4_A (s : State) : Exec := changeBit (.cb 0xA7#8) (resBit 4) (.reg .a) s
/-- CB A8, `RES 5,B` (R254). -/
def execRes_5_B (s : State) : Exec := changeBit (.cb 0xA8#8) (resBit 5) (.reg .b) s
/-- CB A9, `RES 5,C` (R254). -/
def execRes_5_C (s : State) : Exec := changeBit (.cb 0xA9#8) (resBit 5) (.reg .c) s
/-- CB AA, `RES 5,D` (R254). -/
def execRes_5_D (s : State) : Exec := changeBit (.cb 0xAA#8) (resBit 5) (.reg .d) s
/-- CB AB, `RES 5,E` (R254). -/
def execRes_5_E (s : State) : Exec := changeBit (.cb 0xAB#8) (resBit 5) (.reg .e) s
/-- CB AC, `RES 5,H` (R254). -/
def execRes_5_H (s : State) : Exec := changeBit (.cb 0xAC#8) (resBit 5) (.reg .h) s
/-- CB AD, `RES 5,L` (R254). -/
def execRes_5_L (s : State) : Exec := changeBit (.cb 0xAD#8) (resBit 5) (.reg .l) s
/-- CB AE, `RES 5,(HL)` (R255). -/
def execRes_5_mHL (s : State) : Exec := changeBit (.cb 0xAE#8) (resBit 5) .mHL s
/-- CB AF, `RES 5,A` (R254). -/
def execRes_5_A (s : State) : Exec := changeBit (.cb 0xAF#8) (resBit 5) (.reg .a) s
/-- CB B0, `RES 6,B` (R254). -/
def execRes_6_B (s : State) : Exec := changeBit (.cb 0xB0#8) (resBit 6) (.reg .b) s
/-- CB B1, `RES 6,C` (R254). -/
def execRes_6_C (s : State) : Exec := changeBit (.cb 0xB1#8) (resBit 6) (.reg .c) s
/-- CB B2, `RES 6,D` (R254). -/
def execRes_6_D (s : State) : Exec := changeBit (.cb 0xB2#8) (resBit 6) (.reg .d) s
/-- CB B3, `RES 6,E` (R254). -/
def execRes_6_E (s : State) : Exec := changeBit (.cb 0xB3#8) (resBit 6) (.reg .e) s
/-- CB B4, `RES 6,H` (R254). -/
def execRes_6_H (s : State) : Exec := changeBit (.cb 0xB4#8) (resBit 6) (.reg .h) s
/-- CB B5, `RES 6,L` (R254). -/
def execRes_6_L (s : State) : Exec := changeBit (.cb 0xB5#8) (resBit 6) (.reg .l) s
/-- CB B6, `RES 6,(HL)` (R255). -/
def execRes_6_mHL (s : State) : Exec := changeBit (.cb 0xB6#8) (resBit 6) .mHL s
/-- CB B7, `RES 6,A` (R254). -/
def execRes_6_A (s : State) : Exec := changeBit (.cb 0xB7#8) (resBit 6) (.reg .a) s
/-- CB B8, `RES 7,B` (R254). -/
def execRes_7_B (s : State) : Exec := changeBit (.cb 0xB8#8) (resBit 7) (.reg .b) s
/-- CB B9, `RES 7,C` (R254). -/
def execRes_7_C (s : State) : Exec := changeBit (.cb 0xB9#8) (resBit 7) (.reg .c) s
/-- CB BA, `RES 7,D` (R254). -/
def execRes_7_D (s : State) : Exec := changeBit (.cb 0xBA#8) (resBit 7) (.reg .d) s
/-- CB BB, `RES 7,E` (R254). -/
def execRes_7_E (s : State) : Exec := changeBit (.cb 0xBB#8) (resBit 7) (.reg .e) s
/-- CB BC, `RES 7,H` (R254). -/
def execRes_7_H (s : State) : Exec := changeBit (.cb 0xBC#8) (resBit 7) (.reg .h) s
/-- CB BD, `RES 7,L` (R254). -/
def execRes_7_L (s : State) : Exec := changeBit (.cb 0xBD#8) (resBit 7) (.reg .l) s
/-- CB BE, `RES 7,(HL)` (R255). -/
def execRes_7_mHL (s : State) : Exec := changeBit (.cb 0xBE#8) (resBit 7) .mHL s
/-- CB BF, `RES 7,A` (R254). -/
def execRes_7_A (s : State) : Exec := changeBit (.cb 0xBF#8) (resBit 7) (.reg .a) s
/-- CB C0, `SET 0,B` (R256). -/
def execSet_0_B (s : State) : Exec := changeBit (.cb 0xC0#8) (setBit 0) (.reg .b) s
/-- CB C1, `SET 0,C` (R256). -/
def execSet_0_C (s : State) : Exec := changeBit (.cb 0xC1#8) (setBit 0) (.reg .c) s
/-- CB C2, `SET 0,D` (R256). -/
def execSet_0_D (s : State) : Exec := changeBit (.cb 0xC2#8) (setBit 0) (.reg .d) s
/-- CB C3, `SET 0,E` (R256). -/
def execSet_0_E (s : State) : Exec := changeBit (.cb 0xC3#8) (setBit 0) (.reg .e) s
/-- CB C4, `SET 0,H` (R256). -/
def execSet_0_H (s : State) : Exec := changeBit (.cb 0xC4#8) (setBit 0) (.reg .h) s
/-- CB C5, `SET 0,L` (R256). -/
def execSet_0_L (s : State) : Exec := changeBit (.cb 0xC5#8) (setBit 0) (.reg .l) s
/-- CB C6, `SET 0,(HL)` (R257). -/
def execSet_0_mHL (s : State) : Exec := changeBit (.cb 0xC6#8) (setBit 0) .mHL s
/-- CB C7, `SET 0,A` (R256). -/
def execSet_0_A (s : State) : Exec := changeBit (.cb 0xC7#8) (setBit 0) (.reg .a) s
/-- CB C8, `SET 1,B` (R256). -/
def execSet_1_B (s : State) : Exec := changeBit (.cb 0xC8#8) (setBit 1) (.reg .b) s
/-- CB C9, `SET 1,C` (R256). -/
def execSet_1_C (s : State) : Exec := changeBit (.cb 0xC9#8) (setBit 1) (.reg .c) s
/-- CB CA, `SET 1,D` (R256). -/
def execSet_1_D (s : State) : Exec := changeBit (.cb 0xCA#8) (setBit 1) (.reg .d) s
/-- CB CB, `SET 1,E` (R256). -/
def execSet_1_E (s : State) : Exec := changeBit (.cb 0xCB#8) (setBit 1) (.reg .e) s
/-- CB CC, `SET 1,H` (R256). -/
def execSet_1_H (s : State) : Exec := changeBit (.cb 0xCC#8) (setBit 1) (.reg .h) s
/-- CB CD, `SET 1,L` (R256). -/
def execSet_1_L (s : State) : Exec := changeBit (.cb 0xCD#8) (setBit 1) (.reg .l) s
/-- CB CE, `SET 1,(HL)` (R257). -/
def execSet_1_mHL (s : State) : Exec := changeBit (.cb 0xCE#8) (setBit 1) .mHL s
/-- CB CF, `SET 1,A` (R256). -/
def execSet_1_A (s : State) : Exec := changeBit (.cb 0xCF#8) (setBit 1) (.reg .a) s
/-- CB D0, `SET 2,B` (R256). -/
def execSet_2_B (s : State) : Exec := changeBit (.cb 0xD0#8) (setBit 2) (.reg .b) s
/-- CB D1, `SET 2,C` (R256). -/
def execSet_2_C (s : State) : Exec := changeBit (.cb 0xD1#8) (setBit 2) (.reg .c) s
/-- CB D2, `SET 2,D` (R256). -/
def execSet_2_D (s : State) : Exec := changeBit (.cb 0xD2#8) (setBit 2) (.reg .d) s
/-- CB D3, `SET 2,E` (R256). -/
def execSet_2_E (s : State) : Exec := changeBit (.cb 0xD3#8) (setBit 2) (.reg .e) s
/-- CB D4, `SET 2,H` (R256). -/
def execSet_2_H (s : State) : Exec := changeBit (.cb 0xD4#8) (setBit 2) (.reg .h) s
/-- CB D5, `SET 2,L` (R256). -/
def execSet_2_L (s : State) : Exec := changeBit (.cb 0xD5#8) (setBit 2) (.reg .l) s
/-- CB D6, `SET 2,(HL)` (R257). -/
def execSet_2_mHL (s : State) : Exec := changeBit (.cb 0xD6#8) (setBit 2) .mHL s
/-- CB D7, `SET 2,A` (R256). -/
def execSet_2_A (s : State) : Exec := changeBit (.cb 0xD7#8) (setBit 2) (.reg .a) s
/-- CB D8, `SET 3,B` (R256). -/
def execSet_3_B (s : State) : Exec := changeBit (.cb 0xD8#8) (setBit 3) (.reg .b) s
/-- CB D9, `SET 3,C` (R256). -/
def execSet_3_C (s : State) : Exec := changeBit (.cb 0xD9#8) (setBit 3) (.reg .c) s
/-- CB DA, `SET 3,D` (R256). -/
def execSet_3_D (s : State) : Exec := changeBit (.cb 0xDA#8) (setBit 3) (.reg .d) s
/-- CB DB, `SET 3,E` (R256). -/
def execSet_3_E (s : State) : Exec := changeBit (.cb 0xDB#8) (setBit 3) (.reg .e) s
/-- CB DC, `SET 3,H` (R256). -/
def execSet_3_H (s : State) : Exec := changeBit (.cb 0xDC#8) (setBit 3) (.reg .h) s
/-- CB DD, `SET 3,L` (R256). -/
def execSet_3_L (s : State) : Exec := changeBit (.cb 0xDD#8) (setBit 3) (.reg .l) s
/-- CB DE, `SET 3,(HL)` (R257). -/
def execSet_3_mHL (s : State) : Exec := changeBit (.cb 0xDE#8) (setBit 3) .mHL s
/-- CB DF, `SET 3,A` (R256). -/
def execSet_3_A (s : State) : Exec := changeBit (.cb 0xDF#8) (setBit 3) (.reg .a) s
/-- CB E0, `SET 4,B` (R256). -/
def execSet_4_B (s : State) : Exec := changeBit (.cb 0xE0#8) (setBit 4) (.reg .b) s
/-- CB E1, `SET 4,C` (R256). -/
def execSet_4_C (s : State) : Exec := changeBit (.cb 0xE1#8) (setBit 4) (.reg .c) s
/-- CB E2, `SET 4,D` (R256). -/
def execSet_4_D (s : State) : Exec := changeBit (.cb 0xE2#8) (setBit 4) (.reg .d) s
/-- CB E3, `SET 4,E` (R256). -/
def execSet_4_E (s : State) : Exec := changeBit (.cb 0xE3#8) (setBit 4) (.reg .e) s
/-- CB E4, `SET 4,H` (R256). -/
def execSet_4_H (s : State) : Exec := changeBit (.cb 0xE4#8) (setBit 4) (.reg .h) s
/-- CB E5, `SET 4,L` (R256). -/
def execSet_4_L (s : State) : Exec := changeBit (.cb 0xE5#8) (setBit 4) (.reg .l) s
/-- CB E6, `SET 4,(HL)` (R257). -/
def execSet_4_mHL (s : State) : Exec := changeBit (.cb 0xE6#8) (setBit 4) .mHL s
/-- CB E7, `SET 4,A` (R256). -/
def execSet_4_A (s : State) : Exec := changeBit (.cb 0xE7#8) (setBit 4) (.reg .a) s
/-- CB E8, `SET 5,B` (R256). -/
def execSet_5_B (s : State) : Exec := changeBit (.cb 0xE8#8) (setBit 5) (.reg .b) s
/-- CB E9, `SET 5,C` (R256). -/
def execSet_5_C (s : State) : Exec := changeBit (.cb 0xE9#8) (setBit 5) (.reg .c) s
/-- CB EA, `SET 5,D` (R256). -/
def execSet_5_D (s : State) : Exec := changeBit (.cb 0xEA#8) (setBit 5) (.reg .d) s
/-- CB EB, `SET 5,E` (R256). -/
def execSet_5_E (s : State) : Exec := changeBit (.cb 0xEB#8) (setBit 5) (.reg .e) s
/-- CB EC, `SET 5,H` (R256). -/
def execSet_5_H (s : State) : Exec := changeBit (.cb 0xEC#8) (setBit 5) (.reg .h) s
/-- CB ED, `SET 5,L` (R256). -/
def execSet_5_L (s : State) : Exec := changeBit (.cb 0xED#8) (setBit 5) (.reg .l) s
/-- CB EE, `SET 5,(HL)` (R257). -/
def execSet_5_mHL (s : State) : Exec := changeBit (.cb 0xEE#8) (setBit 5) .mHL s
/-- CB EF, `SET 5,A` (R256). -/
def execSet_5_A (s : State) : Exec := changeBit (.cb 0xEF#8) (setBit 5) (.reg .a) s
/-- CB F0, `SET 6,B` (R256). -/
def execSet_6_B (s : State) : Exec := changeBit (.cb 0xF0#8) (setBit 6) (.reg .b) s
/-- CB F1, `SET 6,C` (R256). -/
def execSet_6_C (s : State) : Exec := changeBit (.cb 0xF1#8) (setBit 6) (.reg .c) s
/-- CB F2, `SET 6,D` (R256). -/
def execSet_6_D (s : State) : Exec := changeBit (.cb 0xF2#8) (setBit 6) (.reg .d) s
/-- CB F3, `SET 6,E` (R256). -/
def execSet_6_E (s : State) : Exec := changeBit (.cb 0xF3#8) (setBit 6) (.reg .e) s
/-- CB F4, `SET 6,H` (R256). -/
def execSet_6_H (s : State) : Exec := changeBit (.cb 0xF4#8) (setBit 6) (.reg .h) s
/-- CB F5, `SET 6,L` (R256). -/
def execSet_6_L (s : State) : Exec := changeBit (.cb 0xF5#8) (setBit 6) (.reg .l) s
/-- CB F6, `SET 6,(HL)` (R257). -/
def execSet_6_mHL (s : State) : Exec := changeBit (.cb 0xF6#8) (setBit 6) .mHL s
/-- CB F7, `SET 6,A` (R256). -/
def execSet_6_A (s : State) : Exec := changeBit (.cb 0xF7#8) (setBit 6) (.reg .a) s
/-- CB F8, `SET 7,B` (R256). -/
def execSet_7_B (s : State) : Exec := changeBit (.cb 0xF8#8) (setBit 7) (.reg .b) s
/-- CB F9, `SET 7,C` (R256). -/
def execSet_7_C (s : State) : Exec := changeBit (.cb 0xF9#8) (setBit 7) (.reg .c) s
/-- CB FA, `SET 7,D` (R256). -/
def execSet_7_D (s : State) : Exec := changeBit (.cb 0xFA#8) (setBit 7) (.reg .d) s
/-- CB FB, `SET 7,E` (R256). -/
def execSet_7_E (s : State) : Exec := changeBit (.cb 0xFB#8) (setBit 7) (.reg .e) s
/-- CB FC, `SET 7,H` (R256). -/
def execSet_7_H (s : State) : Exec := changeBit (.cb 0xFC#8) (setBit 7) (.reg .h) s
/-- CB FD, `SET 7,L` (R256). -/
def execSet_7_L (s : State) : Exec := changeBit (.cb 0xFD#8) (setBit 7) (.reg .l) s
/-- CB FE, `SET 7,(HL)` (R257). -/
def execSet_7_mHL (s : State) : Exec := changeBit (.cb 0xFE#8) (setBit 7) .mHL s
/-- CB FF, `SET 7,A` (R256). -/
def execSet_7_A (s : State) : Exec := changeBit (.cb 0xFF#8) (setBit 7) (.reg .a) s

end Sys2Proof.Machine
end

