-- ==== Sys2Proof/Machine/System.lean ====
section
/-! DEFINITION. System instructions and the undefined bytes (spec/45_system.md). -/

namespace Sys2Proof.Machine

/-- HALT and STOP (R302, R303): the step completes, then the status is the terminal `Halted` (R402). -/
def haltAfter (op : Opcode) (len : Nat) (s : State) : Exec :=
  .next { (s.skip len).retire (s.cost op) with status := .halted }

/-- DI and EI (R304, R305): the change of `ime` is put off; a pending one is replaced (D26). -/
def deferIme (op : Opcode) (target : Bool) (s : State) : Exec :=
  complete { s.skip 1 with imePend := some ⟨.two, target⟩ } (s.cost op)

/-- An undefined byte (R301): `DecodeError` with the instruction's address. -/
def undefinedByte (op : Byte) (s : State) : Exec :=
  .next (State.raise s s (.decodeError op false s.regs.pc))

/-! ## The meanings -/

/-- 00, `NOP` (R300). -/
def execNop (s : State) : Exec := complete (s.skip 1) (s.cost (.base 0x00#8))
/-- 10, `STOP` (R303). -/
def execStop (_ : Byte) (s : State) : Exec := haltAfter (.base 0x10#8) 2 s
/-- 76, `HALT` (R302). -/
def execHalt (s : State) : Exec := haltAfter (.base 0x76#8) 1 s
/-- D3, `the undefined byte` (R301). -/
def execUndefined_D3 (s : State) : Exec := undefinedByte 0xD3#8 s
/-- DB, `the undefined byte` (R301). -/
def execUndefined_DB (s : State) : Exec := undefinedByte 0xDB#8 s
/-- DD, `the undefined byte` (R301). -/
def execUndefined_DD (s : State) : Exec := undefinedByte 0xDD#8 s
/-- E3, `the undefined byte` (R301). -/
def execUndefined_E3 (s : State) : Exec := undefinedByte 0xE3#8 s
/-- E4, `the undefined byte` (R301). -/
def execUndefined_E4 (s : State) : Exec := undefinedByte 0xE4#8 s
/-- EB, `the undefined byte` (R301). -/
def execUndefined_EB (s : State) : Exec := undefinedByte 0xEB#8 s
/-- EC, `the undefined byte` (R301). -/
def execUndefined_EC (s : State) : Exec := undefinedByte 0xEC#8 s
/-- ED, `the undefined byte` (R301). -/
def execUndefined_ED (s : State) : Exec := undefinedByte 0xED#8 s
/-- F3, `DI` (R304). -/
def execDi (s : State) : Exec := deferIme (.base 0xF3#8) false s
/-- F4, `the undefined byte` (R301). -/
def execUndefined_F4 (s : State) : Exec := undefinedByte 0xF4#8 s
/-- FB, `EI` (R305). -/
def execEi (s : State) : Exec := deferIme (.base 0xFB#8) true s
/-- FC, `the undefined byte` (R301). -/
def execUndefined_FC (s : State) : Exec := undefinedByte 0xFC#8 s
/-- FD, `the undefined byte` (R301). -/
def execUndefined_FD (s : State) : Exec := undefinedByte 0xFD#8 s

end Sys2Proof.Machine
end

