-- ==== Sys2Proof/Machine/Fetch.lean ====
section
/-! DEFINITION. Fetching and decoding the instruction at PC (spec/70_reset_and_hazards.md R398), in the order of
spec/60_exceptions.md R364, and placing an instruction where the next step fetches it. -/

namespace Sys2Proof.Machine

/-- Whether a row is in the dispatch table (R106): with `ADMIT_GENERAL = false` only the source-named rows
are. The 11 undefined bytes have rows of their own, whose meaning is `DecodeError` (R301). -/
def admits (cfg : Config) (op : Opcode) : Bool := cfg.admitGeneral || sourceNamed op

/-- `n` bus reads at rising addresses (R90). -/
def State.fetchBytes (s : State) : Nat → Word → Except Fault (List Byte)
  | 0, _ => .ok []
  | n + 1, a =>
    match s.busRead a with
    | .error f => .error f
    | .ok v =>
      match State.fetchBytes s n (a + 1#16) with
      | .error f => .error f
      | .ok vs => .ok (v :: vs)

/-- The instruction at PC. The opcode byte is read first, the second byte after a prefix next; then the row
is looked up, and a missing one is a `DecodeError` at the instruction's address (R306); the operand bytes are
read last (R364). -/
def State.fetch (s : State) : Except Fault Instr :=
  let a := s.regs.pc
  match s.busRead a with
  | .error f => .error f
  | .ok op =>
    if op = prefixByte then
      match s.busRead (a + 1#16) with
      | .error f => .error f
      | .ok op2 => if admits s.cfg (.cb op2) then .ok (decodeCb op2) else .error (.decodeError op2 true a)
    else if admits s.cfg (.base op) then
      match s.fetchBytes (instrLength op - 1) (a + 1#16) with
      | .error f => .error f
      | .ok vs => .ok (decodeBase op (vs.getD 0 0#8) (vs.getD 1 0#8))
    else .error (.decodeError op false a)

/-- Whether the boot overlay is mapped although no 256-byte `BOOT_ROM` was supplied (R394,
93_implementation_defined.md I5). -/
def State.bootMissing (s : State) : Bool := s.bootLatch && s.cfg.boot.isNone

/-! ## Placing code (the host's interface; no instruction does this) -/

/-- The list with position `i` set, made longer with `pad` when it is too short. -/
def setPadded (l : List Byte) (i : Nat) (v pad : Byte) : List Byte :=
  (l ++ List.replicate (i + 1 - l.length) pad).set i v

/-- The state in which a bus read of `a` gives `v`, by a change of what answers `a`: an image, the store, or
a PPU register. An unmapped address is left alone. -/
def State.placeByte (s : State) (a : Word) (v : Byte) : State :=
  match regionOf s.bootLatch a with
  | .boot => { s with cfg := { s.cfg with boot := some (setPadded (s.cfg.boot.getD []) a.toNat v s.cfg.romPad) } }
  | .cart => { s with cfg := { s.cfg with rom := setPadded s.cfg.rom a.toNat v s.cfg.romPad } }
  | .io =>
    if a = 0xFF44#16 then { s with ppu := { s.ppu with ly := v } }
    else if ppuOwned a then
      match s.ppu.writeRegister a v with
      | .ok p => { s with ppu := p }
      | .error _ => s
    else s.setMemByte a v
  | .vram => s.setMemByte a v
  | .wram => s.setMemByte a v
  | .hram => s.setMemByte a v
  | .unmapped => s

/-- The state in which bus reads from `a` on give the bytes of a list. -/
def State.placeBytes (s : State) (a : Word) : List Byte → State
  | [] => s
  | v :: vs => (s.placeByte a v).placeBytes (a + 1#16) vs

/-- The state ready to run: running, and with an overlay (empty if there was none) where one is mapped. -/
def State.readyToRun (s : State) : State :=
  { s with status := .running, cfg := { s.cfg with boot := if s.bootLatch then some (s.cfg.boot.getD []) else s.cfg.boot } }

end Sys2Proof.Machine
end

