-- ==== Sys2Proof/Machine/Step.lean ====
section
/-! DEFINITION. One step (spec/70_reset_and_hazards.md R396 to R398). -/

namespace Sys2Proof.Machine

/-- One step: the start-of-step action, the fetch, and the instruction, which charges its cost and advances
the PPU itself (R398). A failed fetch is taken like any fault (R362). In `Halted` or `Faulted` a step request
changes nothing (R396). -/
def step (s : State) : Host.Outcome State Fault Refusal :=
  match s.status with
  | .halted => .next s
  | .faulted _ => .next s
  | .running =>
    if s.bootMissing then .refused .bootRomAbsent
    else
      match s.startOfStep.fetch with
      | .error f => .next (State.raise s.startOfStep s.startOfStep f)
      | .ok i => exec i s.startOfStep

/-- The state with an instruction placed where `step` fetches its next one (the host's interface; log 15). -/
def State.withFetchWord (s : State) (nbits w : Nat) : State :=
  s.readyToRun.placeBytes s.regs.pc (tableBytes nbits w)

end Sys2Proof.Machine
end

