-- ==== Sys2Proof/Machine/Boot.lean ====
section
/-! DEFINITION. The load and the reset (spec/70_reset_and_hazards.md R390 to R392, spec/10_state.md R44). -/

namespace Sys2Proof.Machine

/-- An address that the store backs: VRAM, WRAM, PORT or HRAM (R34, R41, R52). -/
def ramAddr (a : Nat) : Bool :=
  (decide (0x8000 ≤ a) && decide (a < 0xA000)) || (decide (0xC000 ≤ a) && decide (a < 0xE000)) ||
    (decide (0xFF00 ≤ a) && decide (a < 0xFFFF))

/-- The memories that `INIT_RAM` names, in canonical form (D9); bytes at other addresses are no memory. -/
def initMemory (cells : List Host.Cell) : Memory := Memory.ofCells (cells.filter fun c => ramAddr c.1)

/-- The frame of 144 rows of 160 that a row-major list of colours gives, 0 where the list is short. -/
def frameOf (px : List Color) : Frame :=
  (List.range 144).map fun y => (List.range 160).map fun x => px.getD (y * 160 + x) 0#32

/-- The register file after reset (R44). -/
def resetRegs (inp : LoadInput) : RegFile :=
  match inp.start with
  | .powerOn =>
    let r := inp.resetRegs
    { a := r.a, b := r.b, c := r.c, d := r.d, e := r.e, h := r.h, l := r.l, zf := r.zf, nf := r.nf, hf := r.hf,
      cf := r.cf, sp := r.sp, pc := 0x0000#16 }
  | .postBoot =>
    { a := 0x01#8, b := 0x00#8, c := 0x13#8, d := 0x00#8, e := 0xD8#8, h := 0x01#8, l := 0x4D#8, zf := true,
      nf := false, hf := true, cf := true, sp := 0xFFFE#16, pc := 0x0100#16 }

/-- The PPU after reset (R44, D10). -/
def resetPpu (inp : LoadInput) : Ppu where
  lcdc := match inp.start with
    | .powerOn => 0x00#8
    | .postBoot => 0x91#8
  scy := 0x00#8
  bgp := match inp.start with
    | .powerOn => 0x00#8
    | .postBoot => 0xFC#8
  mode := .oam
  countdown := 83
  ly := 0#8
  fb := frameOf inp.initFb
  framesOut := []

/-- The overlay that a supplied `BOOT_ROM` gives: exactly 256 bytes, or none (R394). -/
def bootOverlay : Option (List Byte) → Option (List Byte)
  | some b => if b.length = 256 then some b else none
  | none => none

/-- The state after reset of a machine that holds the image `rom` (R44, R392). -/
def resetState (inp : LoadInput) (rom : List Byte) : State where
  regs := resetRegs inp
  ime := inp.imeReset
  imePend := none
  cyclesTotal := 0
  bootLatch := decide (inp.start = .powerOn)
  mem := initMemory inp.initRam
  ppu := resetPpu inp
  status := .running
  cfg := { inp.params with rom := rom, boot := bootOverlay inp.boot }

/-- `load` (R390, R377): the checks of the image, then the reset. -/
def load (inp : LoadInput) : Except Fault State :=
  match inp.rom with
  | none => .error (.loadError .unreadable)
  | some rom =>
    if rom.length < 0x148 then .error (.loadError .tooShort)
    else
      let b := rom.getD 0x147 0#8
      match mapperOf b with
      | none => .error (.loadError (.unsupportedMapper b))
      | some .directMapped => .ok (resetState inp rom)

/-- The inputs behind `State.reset`: `PowerOn`, every parameter at its default, every open register 0, no
byte of memory listed (log 2 to log 5). -/
def standardInput : LoadInput where
  rom := none
  boot := none
  start := .powerOn
  resetRegs := { a := 0, b := 0, c := 0, d := 0, e := 0, h := 0, l := 0, zf := false, nf := false, hf := false,
                 cf := false, sp := 0 }
  imeReset := false
  initRam := []
  initFb := []
  params := Config.standard

end Sys2Proof.Machine
end

