-- ==== Sys2Proof/Machine/Boundary.lean ====
section
/-! DEFINITION. What the host may do besides the load and the step (spec/70_reset_and_hazards.md R405): it reads, and
writes no state. -/

namespace Sys2Proof.Machine

/-- The step interaction: the new state, its status and the step's cost (R405); a step that completes nothing
costs 0 (R400). -/
def stepReport (s : State) : Option (State × Status × Nat) :=
  match step s with
  | .next t => some (t, t.status, t.cyclesTotal - s.cyclesTotal)
  | .fault _ => none
  | .refused _ => none

/-- The take-frames interaction: the frames appended since the first `taken` of them were taken (R405, R346). -/
def takeFrames (taken : Nat) (s : State) : List Frame := s.ppu.framesOut.drop taken

/-- The report interaction: the fault record (R363, R405). -/
def faultReport (s : State) : Option FaultRecord :=
  match s.status with
  | .running => none
  | .halted => none
  | .faulted r => some r

/-- The register dump of a record, as the pairs of R363: AF, BC, DE, HL, SP, PC. -/
def registerDump (r : FaultRecord) : List Word :=
  [r.regs.af, r.regs.bc, r.regs.de, r.regs.hl, r.regs.sp, r.regs.pc]

/-- `k` steps of a host that stops when the run ends (R403). -/
def runSteps : Nat → State → Exec
  | 0, s => .next s
  | k + 1, s =>
    match step s with
    | .next t => runSteps k t
    | .fault f => .fault f
    | .refused r => .refused r

end Sys2Proof.Machine
end

