-- ==== Sys2Proof/Safety.lean ====
section
/-! DEFINITION. What claims are stated in: the invariant of a machine that a load made, the ends of a run, the
field numbers of the encodings, and what each instruction may change, as the spec's own tables give it. No
definition here is used by the machine. -/

namespace Sys2Proof

/-! ## The numbers of the operand fields (spec/30_encoding.md) -/

/-- The field `r` of a register (R95). -/
def Reg8.code : Reg8 → Nat
  | .b => 0
  | .c => 1
  | .d => 2
  | .e => 3
  | .h => 4
  | .l => 5
  | .a => 7

/-- The field `r` of an 8-bit operand (R95). -/
def Src8.code : Src8 → Nat
  | .reg r => r.code
  | .mHL => 6

/-- The field `rr` (R96). -/
def Reg16.code : Reg16 → Nat
  | .bc => 0
  | .de => 1
  | .hl => 2
  | .sp => 3

/-- The field `qq` (R97). -/
def StackReg.code : StackReg → Nat
  | .bc => 0
  | .de => 1
  | .hl => 2
  | .af => 3

/-- The field `cc` (R98). -/
def Cond.code : Cond → Nat
  | .nz => 0
  | .z => 1
  | .nc => 2
  | .c => 3

/-- The field `alu` (R99). -/
def AluOp.code : AluOp → Nat
  | .add => 0
  | .adc => 1
  | .sub => 2
  | .sbc => 3
  | .and => 4
  | .xor => 5
  | .or => 6
  | .cp => 7

/-- The field `rot` (R100). -/
def RotOp.code : RotOp → Nat
  | .rlc => 0
  | .rrc => 1
  | .rl => 2
  | .rr => 3
  | .sla => 4
  | .sra => 5
  | .swap => 6
  | .srl => 7

/-- The opcode byte with the fields `x`, `y` and `z` (R92). -/
def opByte (x y z : Nat) : Byte := BitVec.ofNat 8 (x * 64 + y * 8 + z)

end Sys2Proof

namespace Sys2Proof.Machine

/-- A frame has 144 rows of 160 values (R342). -/
def Frame.shaped (f : Frame) : Bool := f.length == 144 && f.all fun row => row.length == 160

/-- The PPU as it is between steps (R323, R326, R327): a countdown within the mode's duration, LY below 144 in
the visible modes and by the countdown in VBlank, and frames of the right shape. -/
def Ppu.wf (p : Ppu) : Bool :=
  decide (1 ≤ p.countdown) && decide (p.countdown ≤ p.mode.duration) &&
    (match p.mode with
      | .vblank => decide (p.ly = vblankLy p.countdown)
      | .oam => decide (p.ly.toNat < 144)
      | .transfer => decide (p.ly.toNat < 144)
      | .hblank => decide (p.ly.toNat < 144)) &&
    Frame.shaped p.fb && p.framesOut.all Frame.shaped

/-- The memory is canonical and lists only addresses the store backs (R34, R52). -/
def memOk (m : Memory) : Bool := Memory.wf m && m.all fun c => ramAddr c.1

/-- The invariant of a reachable state. -/
def State.Inv (s : State) : Prop := memOk s.mem = true ∧ Ppu.wf s.ppu = true

/-- The run has ended by itself (R403). -/
def State.ended (s : State) : Bool :=
  match s.status with
  | .running => false
  | .halted => true
  | .faulted _ => true

/-- The register file, `ime` and `ime_pend`: what a fault restores (R362). -/
def State.engine (s : State) : RegFile × Bool × Option ImePend := (s.regs, s.ime, s.imePend)

/-- The addresses that no backing store answers (R53). -/
def unmappedAddr (a : Word) : Bool :=
  let n := a.toNat
  (decide (0x4000 ≤ n) && decide (n ≤ 0x7FFF)) || (decide (0xA000 ≤ n) && decide (n ≤ 0xBFFF)) ||
    (decide (0xE000 ≤ n) && decide (n ≤ 0xFEFF)) || decide (n = 0xFFFF)

/-- The end of a completed instruction that left the register file `g`: the cost `c` is charged and the PPU
advanced by it (R398 to R400). -/
def State.doneWith (s : State) (g : RegFile) (c : Nat) : State := State.retire { s with regs := g } c

/-- The state a fault leaves when it is raised in `s` (R362, R363): the record holds the registers. -/
def State.stopped (s : State) (f : Fault) : State := { s with status := .faulted ⟨f, s.regs⟩ }

/-- The register file with PC past an instruction of `n` bytes (R27). -/
def RegFile.past (g : RegFile) (n : Nat) : RegFile := { g with pc := g.pc + BitVec.ofNat 16 n }

/-- The 8-bit operand `r` of R95 read in the state: a register, or the bus byte at HL. -/
def State.readSrc (s : State) : Src8 → Except Fault Byte
  | .reg r => .ok (s.regs.get8 r)
  | .mHL => s.busRead s.regs.hl

/-! ## What an instruction does, form by form

Each of these says what `exec` answers: a next state when the accesses succeed, and the state a fault leaves when
one of them fails. -/

/-- The instruction completes with the register file `g`, at the cost of its opcode. -/
def Completes (i : Instr) (s : State) (g : RegFile) : Prop :=
  exec i s = .next (s.doneWith g (s.cost i.opcode))

/-- The instruction faults with `f`, having stored nothing. -/
def Faults (i : Instr) (s : State) (f : Fault) : Prop := exec i s = .next (s.stopped f)

/-- The instruction reads the byte at `a` and completes with `g` of it. -/
def Loads (i : Instr) (s : State) (a : Word) (g : Byte → RegFile) : Prop :=
  (∀ v, s.busRead a = .ok v → Completes i s (g v)) ∧ ∀ f, s.busRead a = .error f → Faults i s f

/-- The instruction stores `v` at `a` and completes with `g`. -/
def Stores (i : Instr) (s : State) (a : Word) (v : Byte) (g : RegFile) : Prop :=
  (∀ t, s.busWrite a v = .ok t → exec i s = .next (t.doneWith g (s.cost i.opcode))) ∧
    ∀ f, s.busWrite a v = .error f → Faults i s f

/-- The instruction stores `v` at `a`, then `w` at `b`, and completes with `g`. A fault of the second store keeps
the first (R68, R362). -/
def StoresTwo (i : Instr) (s : State) (a : Word) (v : Byte) (b : Word) (w : Byte) (g : RegFile) : Prop :=
  (∀ t u, s.busWrite a v = .ok t → t.busWrite b w = .ok u → exec i s = .next (u.doneWith g (s.cost i.opcode))) ∧
    (∀ f, s.busWrite a v = .error f → Faults i s f) ∧
    ∀ t f, s.busWrite a v = .ok t → t.busWrite b w = .error f → exec i s = .next (t.stopped f)

/-- The instruction pushes `v` (R150): the high byte at SP - 1, the low byte at SP - 2. -/
def Pushes (i : Instr) (s : State) (v : Word) (g : RegFile) : Prop :=
  StoresTwo i s (s.regs.sp - 1#16) (v.extractLsb' 8 8) (s.regs.sp - 2#16) (v.extractLsb' 0 8)
    { g with sp := s.regs.sp - 2#16 }

/-- The instruction pops a word (R151), the low byte from SP and the high byte from SP + 1, and ends in `t` of
it with the cost of its opcode. -/
def Pops (i : Instr) (s : State) (t : Word → State) : Prop :=
  (∀ lo hi, s.busRead s.regs.sp = .ok lo → s.busRead (s.regs.sp + 1#16) = .ok hi →
    exec i s = .next ((t (hi ++ lo)).retire (s.cost i.opcode))) ∧
    (∀ f, s.busRead s.regs.sp = .error f → Faults i s f) ∧
    ∀ lo f, s.busRead s.regs.sp = .ok lo → s.busRead (s.regs.sp + 1#16) = .error f → Faults i s f

/-- The instruction reads its 8-bit operand and completes with `g` of it. -/
def Operates (i : Instr) (s : State) (x : Src8) (g : Byte → RegFile) : Prop :=
  (∀ v, s.readSrc x = .ok v → Completes i s (g v)) ∧ ∀ f, s.readSrc x = .error f → Faults i s f

/-- The instruction of `n` bytes replaces its 8-bit operand `v` by `res v` and then changes the flags by
`flags v`: a register, or the byte at HL with a read and then a write (R77). -/
def Modifies (i : Instr) (s : State) (n : Nat) (x : Src8) (res : Byte → Byte) (flags : Byte → RegFile → RegFile) : Prop :=
  match x with
  | .reg r => Completes i s (flags (s.regs.get8 r) ((s.regs.past n).set8 r (res (s.regs.get8 r))))
  | .mHL =>
    (∀ v t, s.busRead s.regs.hl = .ok v → s.busWrite s.regs.hl (res v) = .ok t →
      exec i s = .next (t.doneWith (flags v (s.regs.past n)) (s.cost i.opcode))) ∧
      (∀ f, s.busRead s.regs.hl = .error f → Faults i s f) ∧
      ∀ v f, s.busRead s.regs.hl = .ok v → s.busWrite s.regs.hl (res v) = .error f → Faults i s f

/-- The three operand forms of an ALU instruction (R160): a register, the byte at HL, an immediate. `out` gives
the register file from the operand and the register file with PC past the instruction. -/
def AluForms (f : AluOp) (s : State) (out : Byte → RegFile → RegFile) : Prop :=
  (∀ x, Operates (Instr.alu f x) s x fun v => out v (s.regs.past 1)) ∧
    ∀ n, Completes (Instr.aluImm f n) s (out n (s.regs.past 2))

/-- A conditional or unconditional jump to `target` of an instruction of `n` bytes (R270, R415). -/
def Jumps (i : Instr) (s : State) (taken : Bool) (n : Nat) (target : Word) : Prop :=
  exec i s = .next (if taken then s.doneWith { s.regs with pc := target } (s.cost i.opcode)
    else s.doneWith (s.regs.past n) (s.costNotTaken i.opcode))

/-- The one-bit rotates and shifts bit by bit (R230): the result and the bit out. -/
def rotated (f : RotOp) (v : Byte) (c : Bool) : Byte × Bool :=
  match f with
  | .rlc => (v.rotateLeft 1, v.getLsbD 7)
  | .rrc => (v.rotateRight 1, v.getLsbD 0)
  | .rl => (BitVec.concat (v.extractLsb' 0 7) c, v.getLsbD 7)
  | .rr => (BitVec.cons c (v.extractLsb' 1 7), v.getLsbD 0)
  | .sla => (BitVec.concat (v.extractLsb' 0 7) false, v.getLsbD 7)
  | .sra => (BitVec.cons (v.getLsbD 7) (v.extractLsb' 1 7), v.getLsbD 0)
  | .swap => (v.extractLsb' 0 4 ++ v.extractLsb' 4 4, false)
  | .srl => (BitVec.cons false (v.extractLsb' 1 7), v.getLsbD 0)

end Sys2Proof.Machine

namespace Sys2Proof

open Machine

/-! ## What an instruction may change or access, and what it costs -/

/-- A set of flags. -/
structure FlagSet where
  z : Bool
  n : Bool
  h : Bool
  c : Bool
  deriving DecidableEq, Repr

/-- The 8-bit registers an instruction may change (R21; the destinations of the instruction rules). -/
def Instr.writes8 (i : Instr) : List Reg8 :=
  match i with
  | .ld_BC_nn _ | .inc_BC | .dec_BC | .pop_BC => [.b, .c]
  | .inc_B | .dec_B | .ld_B_n _ | .ld_B_B | .ld_B_C | .ld_B_D | .ld_B_E | .ld_B_H | .ld_B_L | .ld_B_mHL
  | .ld_B_A | .rlc_B | .rrc_B | .rl_B | .rr_B | .sla_B | .sra_B | .swap_B | .srl_B | .res_0_B | .res_1_B
  | .res_2_B | .res_3_B | .res_4_B | .res_5_B | .res_6_B | .res_7_B | .set_0_B | .set_1_B | .set_2_B | .set_3_B
  | .set_4_B | .set_5_B | .set_6_B | .set_7_B => [.b]
  | .rlca | .ld_A_mBC | .rrca | .rla | .ld_A_mDE | .rra | .daa | .cpl | .inc_A | .dec_A | .ld_A_n _ | .ld_A_B
  | .ld_A_C | .ld_A_D | .ld_A_E | .ld_A_H | .ld_A_L | .ld_A_mHL | .ld_A_A | .add_A_B | .add_A_C | .add_A_D
  | .add_A_E | .add_A_H | .add_A_L | .add_A_mHL | .add_A_A | .adc_A_B | .adc_A_C | .adc_A_D | .adc_A_E
  | .adc_A_H | .adc_A_L | .adc_A_mHL | .adc_A_A | .sub_B | .sub_C | .sub_D | .sub_E | .sub_H | .sub_L
  | .sub_mHL | .sub_A | .sbc_A_B | .sbc_A_C | .sbc_A_D | .sbc_A_E | .sbc_A_H | .sbc_A_L | .sbc_A_mHL | .sbc_A_A
  | .and_B | .and_C | .and_D | .and_E | .and_H | .and_L | .and_mHL | .and_A | .xor_B | .xor_C | .xor_D | .xor_E
  | .xor_H | .xor_L | .xor_mHL | .xor_A | .or_B | .or_C | .or_D | .or_E | .or_H | .or_L | .or_mHL | .or_A
  | .add_A_n _ | .adc_A_n _ | .sub_n _ | .sbc_A_n _ | .and_n _ | .xor_n _ | .ldh_A_ion _ | .pop_AF | .ld_A_ioC
  | .or_n _ | .ld_A_mnn _ | .rlc_A | .rrc_A | .rl_A | .rr_A | .sla_A | .sra_A | .swap_A | .srl_A | .res_0_A
  | .res_1_A | .res_2_A | .res_3_A | .res_4_A | .res_5_A | .res_6_A | .res_7_A | .set_0_A | .set_1_A | .set_2_A
  | .set_3_A | .set_4_A | .set_5_A | .set_6_A | .set_7_A => [.a]
  | .add_HL_BC | .add_HL_DE | .ld_HL_nn _ | .ld_mHLinc_A | .inc_HL | .add_HL_HL | .dec_HL | .ld_mHLdec_A
  | .add_HL_SP | .pop_HL | .ld_HL_SPe _ => [.h, .l]
  | .inc_C | .dec_C | .ld_C_n _ | .ld_C_B | .ld_C_C | .ld_C_D | .ld_C_E | .ld_C_H | .ld_C_L | .ld_C_mHL
  | .ld_C_A | .rlc_C | .rrc_C | .rl_C | .rr_C | .sla_C | .sra_C | .swap_C | .srl_C | .res_0_C | .res_1_C
  | .res_2_C | .res_3_C | .res_4_C | .res_5_C | .res_6_C | .res_7_C | .set_0_C | .set_1_C | .set_2_C | .set_3_C
  | .set_4_C | .set_5_C | .set_6_C | .set_7_C => [.c]
  | .ld_DE_nn _ | .inc_DE | .dec_DE | .pop_DE => [.d, .e]
  | .inc_D | .dec_D | .ld_D_n _ | .ld_D_B | .ld_D_C | .ld_D_D | .ld_D_E | .ld_D_H | .ld_D_L | .ld_D_mHL
  | .ld_D_A | .rlc_D | .rrc_D | .rl_D | .rr_D | .sla_D | .sra_D | .swap_D | .srl_D | .res_0_D | .res_1_D
  | .res_2_D | .res_3_D | .res_4_D | .res_5_D | .res_6_D | .res_7_D | .set_0_D | .set_1_D | .set_2_D | .set_3_D
  | .set_4_D | .set_5_D | .set_6_D | .set_7_D => [.d]
  | .inc_E | .dec_E | .ld_E_n _ | .ld_E_B | .ld_E_C | .ld_E_D | .ld_E_E | .ld_E_H | .ld_E_L | .ld_E_mHL
  | .ld_E_A | .rlc_E | .rrc_E | .rl_E | .rr_E | .sla_E | .sra_E | .swap_E | .srl_E | .res_0_E | .res_1_E
  | .res_2_E | .res_3_E | .res_4_E | .res_5_E | .res_6_E | .res_7_E | .set_0_E | .set_1_E | .set_2_E | .set_3_E
  | .set_4_E | .set_5_E | .set_6_E | .set_7_E => [.e]
  | .inc_H | .dec_H | .ld_H_n _ | .ld_H_B | .ld_H_C | .ld_H_D | .ld_H_E | .ld_H_H | .ld_H_L | .ld_H_mHL
  | .ld_H_A | .rlc_H | .rrc_H | .rl_H | .rr_H | .sla_H | .sra_H | .swap_H | .srl_H | .res_0_H | .res_1_H
  | .res_2_H | .res_3_H | .res_4_H | .res_5_H | .res_6_H | .res_7_H | .set_0_H | .set_1_H | .set_2_H | .set_3_H
  | .set_4_H | .set_5_H | .set_6_H | .set_7_H => [.h]
  | .ld_A_mHLinc | .ld_A_mHLdec => [.a, .h, .l]
  | .inc_L | .dec_L | .ld_L_n _ | .ld_L_B | .ld_L_C | .ld_L_D | .ld_L_E | .ld_L_H | .ld_L_L | .ld_L_mHL
  | .ld_L_A | .rlc_L | .rrc_L | .rl_L | .rr_L | .sla_L | .sra_L | .swap_L | .srl_L | .res_0_L | .res_1_L
  | .res_2_L | .res_3_L | .res_4_L | .res_5_L | .res_6_L | .res_7_L | .set_0_L | .set_1_L | .set_2_L | .set_3_L
  | .set_4_L | .set_5_L | .set_6_L | .set_7_L => [.l]
  | _ => []

/-- Whether an instruction may change SP (R26). -/
def Instr.writesSp (i : Instr) : Bool :=
  match i with
  | .ld_SP_nn _ | .inc_SP | .dec_SP | .ret_NZ | .pop_BC | .call_NZ_nn _ | .push_BC | .rst_00H | .ret_Z | .ret
  | .call_Z_nn _ | .call_nn _ | .rst_08H | .ret_NC | .pop_DE | .call_NC_nn _ | .push_DE | .rst_10H | .ret_C
  | .reti | .call_C_nn _ | .rst_18H | .pop_HL | .push_HL | .rst_20H | .add_SP_e _ | .rst_28H | .pop_AF
  | .push_AF | .rst_30H | .ld_SP_HL | .rst_38H => true
  | _ => false

/-- The flags an instruction may change (R28). -/
def Instr.writesFlags (i : Instr) : FlagSet :=
  match i with
  | .inc_B | .dec_B | .inc_C | .dec_C | .inc_D | .dec_D | .inc_E | .dec_E | .inc_H | .dec_H | .inc_L | .dec_L
  | .inc_mHL | .dec_mHL | .inc_A | .dec_A | .bit_0_B | .bit_0_C | .bit_0_D | .bit_0_E | .bit_0_H | .bit_0_L
  | .bit_0_mHL | .bit_0_A | .bit_1_B | .bit_1_C | .bit_1_D | .bit_1_E | .bit_1_H | .bit_1_L | .bit_1_mHL
  | .bit_1_A | .bit_2_B | .bit_2_C | .bit_2_D | .bit_2_E | .bit_2_H | .bit_2_L | .bit_2_mHL | .bit_2_A
  | .bit_3_B | .bit_3_C | .bit_3_D | .bit_3_E | .bit_3_H | .bit_3_L | .bit_3_mHL | .bit_3_A | .bit_4_B
  | .bit_4_C | .bit_4_D | .bit_4_E | .bit_4_H | .bit_4_L | .bit_4_mHL | .bit_4_A | .bit_5_B | .bit_5_C
  | .bit_5_D | .bit_5_E | .bit_5_H | .bit_5_L | .bit_5_mHL | .bit_5_A | .bit_6_B | .bit_6_C | .bit_6_D
  | .bit_6_E | .bit_6_H | .bit_6_L | .bit_6_mHL | .bit_6_A | .bit_7_B | .bit_7_C | .bit_7_D | .bit_7_E
  | .bit_7_H | .bit_7_L | .bit_7_mHL | .bit_7_A => ⟨true, true, true, false⟩
  | .rlca | .rrca | .rla | .rra | .add_A_B | .add_A_C | .add_A_D | .add_A_E | .add_A_H | .add_A_L | .add_A_mHL
  | .add_A_A | .adc_A_B | .adc_A_C | .adc_A_D | .adc_A_E | .adc_A_H | .adc_A_L | .adc_A_mHL | .adc_A_A | .sub_B
  | .sub_C | .sub_D | .sub_E | .sub_H | .sub_L | .sub_mHL | .sub_A | .sbc_A_B | .sbc_A_C | .sbc_A_D | .sbc_A_E
  | .sbc_A_H | .sbc_A_L | .sbc_A_mHL | .sbc_A_A | .and_B | .and_C | .and_D | .and_E | .and_H | .and_L
  | .and_mHL | .and_A | .xor_B | .xor_C | .xor_D | .xor_E | .xor_H | .xor_L | .xor_mHL | .xor_A | .or_B | .or_C
  | .or_D | .or_E | .or_H | .or_L | .or_mHL | .or_A | .cp_B | .cp_C | .cp_D | .cp_E | .cp_H | .cp_L | .cp_mHL
  | .cp_A | .add_A_n _ | .adc_A_n _ | .sub_n _ | .sbc_A_n _ | .and_n _ | .add_SP_e _ | .xor_n _ | .pop_AF
  | .or_n _ | .ld_HL_SPe _ | .cp_n _ | .rlc_B | .rlc_C | .rlc_D | .rlc_E | .rlc_H | .rlc_L | .rlc_mHL | .rlc_A
  | .rrc_B | .rrc_C | .rrc_D | .rrc_E | .rrc_H | .rrc_L | .rrc_mHL | .rrc_A | .rl_B | .rl_C | .rl_D | .rl_E
  | .rl_H | .rl_L | .rl_mHL | .rl_A | .rr_B | .rr_C | .rr_D | .rr_E | .rr_H | .rr_L | .rr_mHL | .rr_A | .sla_B
  | .sla_C | .sla_D | .sla_E | .sla_H | .sla_L | .sla_mHL | .sla_A | .sra_B | .sra_C | .sra_D | .sra_E | .sra_H
  | .sra_L | .sra_mHL | .sra_A | .swap_B | .swap_C | .swap_D | .swap_E | .swap_H | .swap_L | .swap_mHL
  | .swap_A | .srl_B | .srl_C | .srl_D | .srl_E | .srl_H | .srl_L | .srl_mHL | .srl_A => ⟨true, true, true, true⟩
  | .add_HL_BC | .add_HL_DE | .add_HL_HL | .scf | .add_HL_SP | .ccf => ⟨false, true, true, true⟩
  | .daa => ⟨true, false, true, true⟩
  | .cpl => ⟨false, true, true, false⟩
  | _ => ⟨false, false, false, false⟩

/-- Whether an instruction takes its first cost: its condition, if it has one (R270, R415). -/
def Instr.taken (i : Instr) (g : RegFile) : Bool :=
  match i with
  | .jr_NZ_e _ | .ret_NZ | .jp_NZ_nn _ | .call_NZ_nn _ => g.cond .nz
  | .jr_Z_e _ | .ret_Z | .jp_Z_nn _ | .call_Z_nn _ => g.cond .z
  | .jr_NC_e _ | .ret_NC | .jp_NC_nn _ | .call_NC_nn _ => g.cond .nc
  | .jr_C_e _ | .ret_C | .jp_C_nn _ | .call_C_nn _ => g.cond .c
  | _ => true

/-- The addresses an instruction stores to, in order (R144, R150). -/
def Instr.storeAddrs (i : Instr) (s : State) : List Word :=
  match i with
  | .ld_mBC_A => [s.regs.bc]
  | .ld_mnn_SP nn => [nn, nn + 1#16]
  | .ld_mDE_A => [s.regs.de]
  | .ld_mHLinc_A | .ld_mHLdec_A | .inc_mHL | .dec_mHL | .ld_mHL_n _ | .ld_mHL_B | .ld_mHL_C | .ld_mHL_D
  | .ld_mHL_E | .ld_mHL_H | .ld_mHL_L | .ld_mHL_A | .rlc_mHL | .rrc_mHL | .rl_mHL | .rr_mHL | .sla_mHL
  | .sra_mHL | .swap_mHL | .srl_mHL | .res_0_mHL | .res_1_mHL | .res_2_mHL | .res_3_mHL | .res_4_mHL
  | .res_5_mHL | .res_6_mHL | .res_7_mHL | .set_0_mHL | .set_1_mHL | .set_2_mHL | .set_3_mHL | .set_4_mHL
  | .set_5_mHL | .set_6_mHL | .set_7_mHL => [s.regs.hl]
  | .call_NZ_nn _ => if s.regs.cond .nz then [s.regs.sp - 1#16, s.regs.sp - 2#16] else []
  | .push_BC | .rst_00H | .call_nn _ | .rst_08H | .push_DE | .rst_10H | .rst_18H | .push_HL | .rst_20H
  | .rst_28H | .push_AF | .rst_30H | .rst_38H => [s.regs.sp - 1#16, s.regs.sp - 2#16]
  | .call_Z_nn _ => if s.regs.cond .z then [s.regs.sp - 1#16, s.regs.sp - 2#16] else []
  | .call_NC_nn _ => if s.regs.cond .nc then [s.regs.sp - 1#16, s.regs.sp - 2#16] else []
  | .call_C_nn _ => if s.regs.cond .c then [s.regs.sp - 1#16, s.regs.sp - 2#16] else []
  | .ldh_ion_A n => [ioAddr n]
  | .ld_ioC_A => [ioAddr s.regs.c]
  | .ld_mnn_A nn => [nn]
  | _ => []

/-- The addresses an instruction reads data from, in order (R144, R151). -/
def Instr.loadAddrs (i : Instr) (s : State) : List Word :=
  match i with
  | .ld_A_mBC => [s.regs.bc]
  | .ld_A_mDE => [s.regs.de]
  | .ld_A_mHLinc | .inc_mHL | .dec_mHL | .ld_A_mHLdec | .ld_B_mHL | .ld_C_mHL | .ld_D_mHL | .ld_E_mHL
  | .ld_H_mHL | .ld_L_mHL | .ld_A_mHL | .add_A_mHL | .adc_A_mHL | .sub_mHL | .sbc_A_mHL | .and_mHL | .xor_mHL
  | .or_mHL | .cp_mHL | .rlc_mHL | .rrc_mHL | .rl_mHL | .rr_mHL | .sla_mHL | .sra_mHL | .swap_mHL | .srl_mHL
  | .bit_0_mHL | .bit_1_mHL | .bit_2_mHL | .bit_3_mHL | .bit_4_mHL | .bit_5_mHL | .bit_6_mHL | .bit_7_mHL
  | .res_0_mHL | .res_1_mHL | .res_2_mHL | .res_3_mHL | .res_4_mHL | .res_5_mHL | .res_6_mHL | .res_7_mHL
  | .set_0_mHL | .set_1_mHL | .set_2_mHL | .set_3_mHL | .set_4_mHL | .set_5_mHL | .set_6_mHL | .set_7_mHL => [s.regs.hl]
  | .ret_NZ => if s.regs.cond .nz then [s.regs.sp, s.regs.sp + 1#16] else []
  | .pop_BC | .ret | .pop_DE | .reti | .pop_HL | .pop_AF => [s.regs.sp, s.regs.sp + 1#16]
  | .ret_Z => if s.regs.cond .z then [s.regs.sp, s.regs.sp + 1#16] else []
  | .ret_NC => if s.regs.cond .nc then [s.regs.sp, s.regs.sp + 1#16] else []
  | .ret_C => if s.regs.cond .c then [s.regs.sp, s.regs.sp + 1#16] else []
  | .ldh_A_ion n => [ioAddr n]
  | .ld_A_ioC => [ioAddr s.regs.c]
  | .ld_A_mnn nn => [nn]
  | _ => []

/-- Whether an instruction halts the core (R302, R303). -/
def Instr.halts (i : Instr) : Bool :=
  match i with
  | .stop _ | .halt => true
  | _ => false

/-- The cost that the rule of an instruction gives, taken and not taken, at the default parameters; 0 for an
undefined byte, which charges nothing (R301). -/
def Instr.ruleCost (i : Instr) : Cost :=
  match i with
  | .nop | .inc_B | .dec_B | .rlca | .inc_C | .dec_C | .rrca | .stop _ | .inc_D | .dec_D | .rla | .inc_E
  | .dec_E | .rra | .inc_H | .dec_H | .daa | .inc_L | .dec_L | .cpl | .scf | .inc_A | .dec_A | .ccf | .ld_B_B
  | .ld_B_C | .ld_B_D | .ld_B_E | .ld_B_H | .ld_B_L | .ld_B_A | .ld_C_B | .ld_C_C | .ld_C_D | .ld_C_E | .ld_C_H
  | .ld_C_L | .ld_C_A | .ld_D_B | .ld_D_C | .ld_D_D | .ld_D_E | .ld_D_H | .ld_D_L | .ld_D_A | .ld_E_B | .ld_E_C
  | .ld_E_D | .ld_E_E | .ld_E_H | .ld_E_L | .ld_E_A | .ld_H_B | .ld_H_C | .ld_H_D | .ld_H_E | .ld_H_H | .ld_H_L
  | .ld_H_A | .ld_L_B | .ld_L_C | .ld_L_D | .ld_L_E | .ld_L_H | .ld_L_L | .ld_L_A | .halt | .ld_A_B | .ld_A_C
  | .ld_A_D | .ld_A_E | .ld_A_H | .ld_A_L | .ld_A_A | .add_A_B | .add_A_C | .add_A_D | .add_A_E | .add_A_H
  | .add_A_L | .add_A_A | .adc_A_B | .adc_A_C | .adc_A_D | .adc_A_E | .adc_A_H | .adc_A_L | .adc_A_A | .sub_B
  | .sub_C | .sub_D | .sub_E | .sub_H | .sub_L | .sub_A | .sbc_A_B | .sbc_A_C | .sbc_A_D | .sbc_A_E | .sbc_A_H
  | .sbc_A_L | .sbc_A_A | .and_B | .and_C | .and_D | .and_E | .and_H | .and_L | .and_A | .xor_B | .xor_C
  | .xor_D | .xor_E | .xor_H | .xor_L | .xor_A | .or_B | .or_C | .or_D | .or_E | .or_H | .or_L | .or_A | .cp_B
  | .cp_C | .cp_D | .cp_E | .cp_H | .cp_L | .cp_A | .jp_HL | .di | .ei => ⟨4, 4⟩
  | .ld_BC_nn _ | .ld_DE_nn _ | .jr_e _ | .ld_HL_nn _ | .ld_SP_nn _ | .inc_mHL | .dec_mHL | .ld_mHL_n _
  | .pop_BC | .pop_DE | .ldh_ion_A _ | .pop_HL | .ldh_A_ion _ | .pop_AF | .ld_HL_SPe _ | .bit_0_mHL
  | .bit_1_mHL | .bit_2_mHL | .bit_3_mHL | .bit_4_mHL | .bit_5_mHL | .bit_6_mHL | .bit_7_mHL => ⟨12, 12⟩
  | .ld_mBC_A | .inc_BC | .ld_B_n _ | .add_HL_BC | .ld_A_mBC | .dec_BC | .ld_C_n _ | .ld_mDE_A | .inc_DE
  | .ld_D_n _ | .add_HL_DE | .ld_A_mDE | .dec_DE | .ld_E_n _ | .ld_mHLinc_A | .inc_HL | .ld_H_n _ | .add_HL_HL
  | .ld_A_mHLinc | .dec_HL | .ld_L_n _ | .ld_mHLdec_A | .inc_SP | .add_HL_SP | .ld_A_mHLdec | .dec_SP
  | .ld_A_n _ | .ld_B_mHL | .ld_C_mHL | .ld_D_mHL | .ld_E_mHL | .ld_H_mHL | .ld_L_mHL | .ld_mHL_B | .ld_mHL_C
  | .ld_mHL_D | .ld_mHL_E | .ld_mHL_H | .ld_mHL_L | .ld_mHL_A | .ld_A_mHL | .add_A_mHL | .adc_A_mHL | .sub_mHL
  | .sbc_A_mHL | .and_mHL | .xor_mHL | .or_mHL | .cp_mHL | .add_A_n _ | .adc_A_n _ | .sub_n _ | .sbc_A_n _
  | .ld_ioC_A | .and_n _ | .xor_n _ | .ld_A_ioC | .or_n _ | .ld_SP_HL | .cp_n _ | .rlc_B | .rlc_C | .rlc_D
  | .rlc_E | .rlc_H | .rlc_L | .rlc_A | .rrc_B | .rrc_C | .rrc_D | .rrc_E | .rrc_H | .rrc_L | .rrc_A | .rl_B
  | .rl_C | .rl_D | .rl_E | .rl_H | .rl_L | .rl_A | .rr_B | .rr_C | .rr_D | .rr_E | .rr_H | .rr_L | .rr_A
  | .sla_B | .sla_C | .sla_D | .sla_E | .sla_H | .sla_L | .sla_A | .sra_B | .sra_C | .sra_D | .sra_E | .sra_H
  | .sra_L | .sra_A | .swap_B | .swap_C | .swap_D | .swap_E | .swap_H | .swap_L | .swap_A | .srl_B | .srl_C
  | .srl_D | .srl_E | .srl_H | .srl_L | .srl_A | .bit_0_B | .bit_0_C | .bit_0_D | .bit_0_E | .bit_0_H
  | .bit_0_L | .bit_0_A | .bit_1_B | .bit_1_C | .bit_1_D | .bit_1_E | .bit_1_H | .bit_1_L | .bit_1_A | .bit_2_B
  | .bit_2_C | .bit_2_D | .bit_2_E | .bit_2_H | .bit_2_L | .bit_2_A | .bit_3_B | .bit_3_C | .bit_3_D | .bit_3_E
  | .bit_3_H | .bit_3_L | .bit_3_A | .bit_4_B | .bit_4_C | .bit_4_D | .bit_4_E | .bit_4_H | .bit_4_L | .bit_4_A
  | .bit_5_B | .bit_5_C | .bit_5_D | .bit_5_E | .bit_5_H | .bit_5_L | .bit_5_A | .bit_6_B | .bit_6_C | .bit_6_D
  | .bit_6_E | .bit_6_H | .bit_6_L | .bit_6_A | .bit_7_B | .bit_7_C | .bit_7_D | .bit_7_E | .bit_7_H | .bit_7_L
  | .bit_7_A | .res_0_B | .res_0_C | .res_0_D | .res_0_E | .res_0_H | .res_0_L | .res_0_A | .res_1_B | .res_1_C
  | .res_1_D | .res_1_E | .res_1_H | .res_1_L | .res_1_A | .res_2_B | .res_2_C | .res_2_D | .res_2_E | .res_2_H
  | .res_2_L | .res_2_A | .res_3_B | .res_3_C | .res_3_D | .res_3_E | .res_3_H | .res_3_L | .res_3_A | .res_4_B
  | .res_4_C | .res_4_D | .res_4_E | .res_4_H | .res_4_L | .res_4_A | .res_5_B | .res_5_C | .res_5_D | .res_5_E
  | .res_5_H | .res_5_L | .res_5_A | .res_6_B | .res_6_C | .res_6_D | .res_6_E | .res_6_H | .res_6_L | .res_6_A
  | .res_7_B | .res_7_C | .res_7_D | .res_7_E | .res_7_H | .res_7_L | .res_7_A | .set_0_B | .set_0_C | .set_0_D
  | .set_0_E | .set_0_H | .set_0_L | .set_0_A | .set_1_B | .set_1_C | .set_1_D | .set_1_E | .set_1_H | .set_1_L
  | .set_1_A | .set_2_B | .set_2_C | .set_2_D | .set_2_E | .set_2_H | .set_2_L | .set_2_A | .set_3_B | .set_3_C
  | .set_3_D | .set_3_E | .set_3_H | .set_3_L | .set_3_A | .set_4_B | .set_4_C | .set_4_D | .set_4_E | .set_4_H
  | .set_4_L | .set_4_A | .set_5_B | .set_5_C | .set_5_D | .set_5_E | .set_5_H | .set_5_L | .set_5_A | .set_6_B
  | .set_6_C | .set_6_D | .set_6_E | .set_6_H | .set_6_L | .set_6_A | .set_7_B | .set_7_C | .set_7_D | .set_7_E
  | .set_7_H | .set_7_L | .set_7_A => ⟨8, 8⟩
  | .ld_mnn_SP _ => ⟨20, 20⟩
  | .jr_NZ_e _ | .jr_Z_e _ | .jr_NC_e _ | .jr_C_e _ => ⟨12, 8⟩
  | .ret_NZ | .ret_Z | .ret_NC | .ret_C => ⟨20, 8⟩
  | .jp_NZ_nn _ | .jp_Z_nn _ | .jp_NC_nn _ | .jp_C_nn _ => ⟨16, 12⟩
  | .jp_nn _ | .push_BC | .rst_00H | .ret | .rst_08H | .push_DE | .rst_10H | .reti | .rst_18H | .push_HL
  | .rst_20H | .add_SP_e _ | .ld_mnn_A _ | .rst_28H | .push_AF | .rst_30H | .ld_A_mnn _ | .rst_38H | .rlc_mHL
  | .rrc_mHL | .rl_mHL | .rr_mHL | .sla_mHL | .sra_mHL | .swap_mHL | .srl_mHL | .res_0_mHL | .res_1_mHL
  | .res_2_mHL | .res_3_mHL | .res_4_mHL | .res_5_mHL | .res_6_mHL | .res_7_mHL | .set_0_mHL | .set_1_mHL
  | .set_2_mHL | .set_3_mHL | .set_4_mHL | .set_5_mHL | .set_6_mHL | .set_7_mHL => ⟨16, 16⟩
  | .call_NZ_nn _ | .call_Z_nn _ | .call_NC_nn _ | .call_C_nn _ => ⟨24, 12⟩
  | .call_nn _ => ⟨24, 24⟩
  | _ => ⟨0, 0⟩

end Sys2Proof
end

