-- ==== Sys2Proof/Certificates/Slice0/Obligations.lean ====
section
/-! DEFINITION. The statements about the model. Each is a claim for every state or operand it names; its docstring
gives the rule of spec/ it formalises. -/

section Statements

open Sys2Proof Sys2Proof.Machine

/-- Decoding an encoded instruction gives it back (30_encoding.md R90 to R103 (encodings and opcode map),
30_encoding.md R112). For every well-formed instruction i and every list of bytes rest, decoding the encoding of
i followed by rest gives i and leaves rest. The spec marks parts of these rules as its own: decisions D2, D4,
D6; general knowledge. -/
def Obligations.DecodeOfEncoded : Prop :=
  ∀ (i : Instr) (rest : List Byte), i.wellFormed = true → decode (encode i ++ rest) = .ok (i, rest)

/-- Every decoded byte string is the encoding of a well-formed instruction (30_encoding.md R90 to R105
(encodings and opcode map)). When a list of bytes decodes to i with the bytes rest left over, i is well formed
and the list is the encoding of i followed by rest: no bit of an encoding is dropped and no two encodings share
an instruction. The spec marks parts of these rules as its own: decisions D2, D3, D4, D6; general knowledge. -/
def Obligations.EncodeOfDecoded : Prop :=
  ∀ (bytes rest : List Byte) (i : Instr), decode bytes = .ok (i, rest) →
    i.wellFormed = true ∧ encode i ++ rest = bytes

/-- The decoding examples of R111 (30_encoding.md R111 (decoding examples)). The bytes 3E 91 decode to LD
A,0x91; 21 00 80 to LD HL,0x8000; 20 FB to JR NZ,-5; CB 7C to BIT 7,H; E2 to LD (C),A; AF to XOR A; and DD to
the undefined byte, whose execution takes DecodeError in every state. The spec marks parts of these rules as its
own: derivation. -/
def Obligations.DecodingExamples : Prop :=
  decode [0x3E#8, 0x91#8] = .ok (.ld_A_n 0x91#8, []) ∧ decode [0x21#8, 0x00#8, 0x80#8] = .ok (.ld_HL_nn 0x8000#16, []) ∧
    decode [0x20#8, 0xFB#8] = .ok (.jr_NZ_e (-5), []) ∧ decode [0xCB#8, 0x7C#8] = .ok (.bit_7_H, []) ∧
    decode [0xE2#8] = .ok (.ld_ioC_A, []) ∧ decode [0xAF#8] = .ok (.xor_A, []) ∧
    decode [0xDD#8] = .ok (.undefined_DD, []) ∧
    ∀ s, exec .undefined_DD s = .next (s.stopped (.decodeError 0xDD#8 false s.regs.pc))

/-- The first byte alone gives the length of an instruction (30_encoding.md R94 (lengths)). An encoding whose
first byte is CB or one of the listed F2 bytes has two bytes, one of the listed F3 bytes three, and any other
byte one; a defined byte is meant, and an undefined one is fetched alone. The spec marks parts of these rules as
its own: decisions D2, D4, D6; general knowledge. -/
def Obligations.LengthByFirstByte : Prop :=
  ∀ i : Instr, ∃ op rest, encode i = op :: rest ∧ (encode i).length =
    if op = 0xCB#8 then 2
    else if op ∈ [0x06#8, 0x0E#8, 0x10#8, 0x16#8, 0x18#8, 0x1E#8, 0x20#8, 0x26#8, 0x28#8, 0x2E#8, 0x30#8, 0x36#8, 0x38#8,
        0x3E#8, 0xC6#8, 0xCE#8, 0xD6#8, 0xDE#8, 0xE0#8, 0xE6#8, 0xE8#8, 0xEE#8, 0xF0#8, 0xF6#8, 0xF8#8, 0xFE#8] then 2
    else if op ∈ [0x01#8, 0x08#8, 0x11#8, 0x21#8, 0x31#8, 0xC2#8, 0xC3#8, 0xC4#8, 0xCA#8, 0xCC#8, 0xCD#8, 0xD2#8, 0xD4#8,
        0xDA#8, 0xDC#8, 0xEA#8, 0xFA#8] then 3
    else 1

/-- The families of the opcode map are encoded by their fields (30_encoding.md R95 to R103 (operand fields and
opcode map)). Every instruction family with operand fields has the opcode byte that the fields x, y, z (p and q
inside y) of the opcode map give, with the operand numbers r, rr, qq, cc, alu, rot, b and t of R95 to R101, then
its operand bytes, a 16-bit one with its low byte first. The spec marks parts of these rules as its own: general
knowledge. -/
def Obligations.EncodingByFields : Prop :=
  (∀ r r', encode (Instr.ldReg r r') = [opByte 1 r.code r'.code]) ∧ (∀ r, encode (Instr.ldRegMem r) = [opByte 1 r.code 6]) ∧
    (∀ r, encode (Instr.ldMemReg r) = [opByte 1 6 r.code]) ∧ (∀ r n, encode (Instr.ldRegImm r n) = [opByte 0 r.code 6, n]) ∧
    (∀ rr nn, encode (Instr.ldPairImm rr nn) = [opByte 0 (2 * rr.code) 1, nn.extractLsb' 0 8, nn.extractLsb' 8 8]) ∧
    (∀ q, encode (Instr.push q) = [opByte 3 (2 * q.code) 5]) ∧ (∀ q, encode (Instr.pop q) = [opByte 3 (2 * q.code) 1]) ∧
    (∀ f x, encode (Instr.alu f x) = [opByte 2 f.code x.code]) ∧ (∀ f n, encode (Instr.aluImm f n) = [opByte 3 f.code 6, n]) ∧
    (∀ x, encode (Instr.inc8 x) = [opByte 0 x.code 4]) ∧ (∀ x, encode (Instr.dec8 x) = [opByte 0 x.code 5]) ∧
    (∀ rr, encode (Instr.inc16 rr) = [opByte 0 (2 * rr.code) 3]) ∧
    (∀ rr, encode (Instr.dec16 rr) = [opByte 0 (2 * rr.code + 1) 3]) ∧
    (∀ rr, encode (Instr.addHl rr) = [opByte 0 (2 * rr.code + 1) 1]) ∧
    (∀ f x, encode (Instr.rot f x) = [0xCB#8, opByte 0 f.code x.code]) ∧
    (∀ (b : Fin 8) x, encode (Instr.bit b x) = [0xCB#8, opByte 1 b.val x.code]) ∧
    (∀ (b : Fin 8) x, encode (Instr.res b x) = [0xCB#8, opByte 2 b.val x.code]) ∧
    (∀ (b : Fin 8) x, encode (Instr.set b x) = [0xCB#8, opByte 3 b.val x.code]) ∧
    (∀ cc (n : Byte), encode (Instr.jrCond cc n.toInt) = [opByte 0 (4 + cc.code) 0, n]) ∧
    (∀ cc nn, encode (Instr.jpCond cc nn) = [opByte 3 cc.code 2, nn.extractLsb' 0 8, nn.extractLsb' 8 8]) ∧
    (∀ cc nn, encode (Instr.callCond cc nn) = [opByte 3 cc.code 4, nn.extractLsb' 0 8, nn.extractLsb' 8 8]) ∧
    (∀ cc, encode (Instr.retCond cc) = [opByte 3 cc.code 0]) ∧ ∀ t : Fin 8, encode (Instr.rst t) = [opByte 3 t.val 7]

/-- The eleven undefined bytes raise DecodeError (30_encoding.md R105 (undefined bytes), 45_system.md R301). The
bytes D3, DB, DD, E3, E4, EB, EC, ED, F4, FC and FD, and no others, are the encodings of the undefined rows,
each alone; executing one answers the state that differs in its status only, which holds DecodeError with that
byte, prefixed = false, the address PC of the instruction, and the registers at its start. The spec marks parts
of these rules as its own: decisions D3, D32; general knowledge. -/
def Obligations.UndefinedByteRaisesDecodeError : Prop :=
  (∀ b : Byte, (∃ u : UndefinedByte, u.byte = b) ↔
      b ∈ [0xD3#8, 0xDB#8, 0xDD#8, 0xE3#8, 0xE4#8, 0xEB#8, 0xEC#8, 0xED#8, 0xF4#8, 0xFC#8, 0xFD#8]) ∧
    ∀ (u : UndefinedByte) (s : State), encode (Instr.undefined u) = [u.byte] ∧
      exec (Instr.undefined u) s =
        .next { s with status := .faulted { fault := .decodeError u.byte false s.regs.pc, regs := s.regs } }

/-- A step runs the instruction whose bytes stand at PC (70_reset_and_hazards.md R398 (the step), 30_encoding.md
R90, R106). In a running state whose boot overlay is present when it is mapped, if after the start-of-step
action the bus reads at PC, PC + 1, and so on give the encoding of a well-formed instruction i that the dispatch
table admits, the step is exec of i in the state after the start-of-step action. exec itself moves PC past the
instruction, charges its cost and advances the PPU. The spec marks parts of these rules as its own: decisions
D1, D2, D16; general knowledge. -/
def Obligations.StepRunsDecodedInstruction : Prop :=
  ∀ (s : State) (i : Instr), s.status = .running → s.bootMissing = false → i.wellFormed = true →
    admits s.cfg i.opcode = true →
    (∀ k v, (encode i)[k]? = some v → s.startOfStep.busRead (s.regs.pc + BitVec.ofNat 16 k) = .ok v) →
    step s = exec i s.startOfStep

/-- The start-of-step action counts a pending DI or EI down and applies it (70_reset_and_hazards.md R397 (start-
of-step action), 45_system.md R304, R305). The action before the fetch leaves a state without a pending toggle
as it is, takes the count 2 to 1, and at 1 sets ime to the target and clears the pending toggle; DI and EI set
the count 2 with the targets false and true, and of the two steps after them the first leaves 1 and the second
applies the target. The spec marks parts of these rules as its own: decisions D26, D27; general knowledge. -/
def Obligations.StartOfStepAction : Prop :=
  (∀ s : State, s.imePend = none → s.startOfStep = s) ∧
    (∀ (s : State) (b : Bool), s.imePend = some ⟨.two, b⟩ → s.startOfStep = { s with imePend := some ⟨.one, b⟩ }) ∧
    (∀ (s : State) (b : Bool), s.imePend = some ⟨.one, b⟩ → s.startOfStep = { s with ime := b, imePend := none }) ∧
    ∀ s t : State, (exec .di s = .next t → t.imePend = some ⟨.two, false⟩ ∧ t.startOfStep.startOfStep.ime = false) ∧
      (exec .ei s = .next t → t.imePend = some ⟨.two, true⟩ ∧ t.startOfStep.startOfStep.ime = true)

/-- DI and EI take effect at the start of the second following step (R406). After DI or EI, ime has its old
value, and the next instruction j starts with it and ends with it (RETI sets ime by its own rule; a second DI or
EI replaces the pending one); whatever j was, completed or faulted, the start-of-step action after it sets ime
to the target and clears the pending toggle. -/
def Obligations.InterruptEnableLatency : Prop :=
  ∀ (s t u : State) (target : Bool) (j : Instr), exec (if target then .ei else .di) s = .next t → j ≠ .di → j ≠ .ei →
    exec j t.startOfStep = .next u →
    t.ime = s.ime ∧ t.startOfStep.ime = s.ime ∧ (j ≠ .reti → u.ime = s.ime) ∧ u.startOfStep.ime = target ∧
      u.startOfStep.imePend = none

/-- A step request in Halted or Faulted changes nothing and reports the status (R396). A state that is not
running answers a step with itself, and the report of that step is the same state, its status and cost 0. -/
def Obligations.TerminalStatus : Prop :=
  ∀ s : State, s.status ≠ .running → step s = .next s ∧ stepReport s = some (s, s.status, 0)

/-- A step is refused only when the mapped boot overlay was not supplied (93_implementation_defined.md I5 (no
BOOT_ROM under PowerOn), 70_reset_and_hazards.md R394). A running state whose boot latch is set and that holds
no boot overlay refuses the step by name (model choice, log 5, after I5); every other state answers a next
state. The spec marks parts of these rules as its own: general knowledge. -/
def Obligations.StepStopsOnlyWithoutBootRom : Prop :=
  ∀ s : State,
    (s.status = .running ∧ s.bootLatch = true ∧ s.cfg.boot = none → step s = .refused .bootRomAbsent) ∧
      (¬(s.status = .running ∧ s.bootLatch = true ∧ s.cfg.boot = none) → ∃ t, step s = .next t)

/-- A fetch from an unmapped address faults, opcode first, operands last (60_exceptions.md R364 (priority),
20_memory.md R54, 44_control.md R281). In a running state with its overlay present, after the start-of-step
action: an unmapped PC gives BusError(PC, Read); after the byte CB an unmapped PC + 1 gives BusError(PC + 1,
Read), whatever the second table admits; after an admitted first byte of a two- or three-byte instruction an
unmapped PC + 1 gives BusError(PC + 1, Read), and of a three-byte one a mapped PC + 1 with an unmapped PC + 2
gives BusError(PC + 2, Read). Only the status changes, and the record holds the registers of the start, with PC
the instruction address. The spec marks parts of these rules as its own: decision D33. -/
def Obligations.FetchFaultsInOrder : Prop :=
  ∀ s u : State, s.status = .running → s.bootMissing = false → u = s.startOfStep →
    (unmappedAddr u.regs.pc = true → step s = .next (u.stopped (.busError u.regs.pc .read))) ∧
      (u.busRead u.regs.pc = .ok 0xCB#8 → unmappedAddr (u.regs.pc + 1#16) = true →
        step s = .next (u.stopped (.busError (u.regs.pc + 1#16) .read))) ∧
      (∀ op, u.busRead u.regs.pc = .ok op → op ≠ 0xCB#8 → admits u.cfg (.base op) = true → 2 ≤ instrLength op →
        unmappedAddr (u.regs.pc + 1#16) = true → step s = .next (u.stopped (.busError (u.regs.pc + 1#16) .read))) ∧
      ∀ op v, u.busRead u.regs.pc = .ok op → op ≠ 0xCB#8 → admits u.cfg (.base op) = true → instrLength op = 3 →
        u.busRead (u.regs.pc + 1#16) = .ok v → unmappedAddr (u.regs.pc + 2#16) = true →
        step s = .next (u.stopped (.busError (u.regs.pc + 2#16) .read))

/-- With ADMIT_GENERAL = false the general-knowledge rows raise DecodeError (45_system.md R306, 30_encoding.md
R104, R106). In a running state with ADMIT_GENERAL = false and its overlay present: a first byte that is not CB
and not source-named gives DecodeError(byte, false, PC), and CB with a second byte that is not source-named
gives DecodeError(second byte, true, PC), after both bytes were read; the source-named second bytes are those of
RL and BIT. The spec marks parts of these rules as its own: decision D2; general knowledge. -/
def Obligations.GeneralKnowledgeRowsRemoved : Prop :=
  (∀ s u : State, s.status = .running → s.bootMissing = false → s.cfg.admitGeneral = false → u = s.startOfStep →
      (∀ op, u.busRead u.regs.pc = .ok op → op ≠ 0xCB#8 → sourceNamed (.base op) = false →
        step s = .next (u.stopped (.decodeError op false u.regs.pc))) ∧
        ∀ op2, u.busRead u.regs.pc = .ok 0xCB#8 → u.busRead (u.regs.pc + 1#16) = .ok op2 → sourceNamed (.cb op2) = false →
          step s = .next (u.stopped (.decodeError op2 true u.regs.pc))) ∧
    ∀ op2 : Byte, sourceNamed (.cb op2) = true ↔
      (0x10 ≤ op2.toNat ∧ op2.toNat ≤ 0x17) ∨ (0x40 ≤ op2.toNat ∧ op2.toNat ≤ 0x7F)

/-- A fault restores the registers, charges nothing and does not advance the PPU (60_exceptions.md R362, R363
(fault mechanics)). When an instruction executed in a running state ends in a fault, the registers, ime and
ime_pend are those of its start, the record holds those registers, cycles_total is the same, and the PPU mode,
countdown, LY, frame buffer and frames are the same. The spec marks parts of these rules as its own: decision
D32. -/
def Obligations.FaultRestoresEngine : Prop :=
  ∀ (i : Instr) (s t : State) (rec : FaultRecord), s.status = .running → exec i s = .next t → t.status = .faulted rec →
    t.regs = s.regs ∧ t.ime = s.ime ∧ t.imePend = s.imePend ∧ rec.regs = s.regs ∧ t.cyclesTotal = s.cyclesTotal ∧
      t.ppu.mode = s.ppu.mode ∧ t.ppu.countdown = s.ppu.countdown ∧ t.ppu.ly = s.ppu.ly ∧ t.ppu.fb = s.ppu.fb ∧
      t.ppu.framesOut = s.ppu.framesOut

/-- An instruction faults only at its own unmapped or read-only addresses, or as an undefined byte
(60_exceptions.md R361 (fault kinds and causes)). When an instruction executed in a running state ends in a
fault, the fault is DecodeError of an undefined byte at PC, or BusError(a, Read) for an unmapped address a the
instruction reads, or BusError(a, Write) for an unmapped address a it stores to, or ReadOnlyViolation(a) for an
address a below 0x4000 it stores to. loadAddrs and storeAddrs compute the addresses of each form. The spec marks
parts of these rules as its own: decisions D12, D44; derivation. -/
def Obligations.FaultSources : Prop :=
  ∀ (i : Instr) (s t : State) (rec : FaultRecord), s.status = .running → exec i s = .next t → t.status = .faulted rec →
    (∃ u : UndefinedByte, i = Instr.undefined u ∧ rec.fault = .decodeError u.byte false s.regs.pc) ∨
      (∃ a ∈ i.loadAddrs s, unmappedAddr a = true ∧ rec.fault = .busError a .read) ∨
      (∃ a ∈ i.storeAddrs s, unmappedAddr a = true ∧ rec.fault = .busError a .write) ∨
      ∃ a ∈ i.storeAddrs s, a.toNat < 0x4000 ∧ rec.fault = .readOnlyViolation a

/-- Accesses fail exactly at unmapped addresses, and stores below 0x4000 (20_memory.md R53, R55, R64 (which
accesses fail)). At 0x4000 to 0x7FFF, 0xA000 to 0xBFFF, 0xE000 to 0xFEFF and 0xFFFF a read and a write fail with
BusError of the address and direction; a read of any other address never fails; a write below 0x4000 fails with
ReadOnlyViolation and a write of any other mapped address never fails. The spec marks parts of these rules as
its own: decisions D12, D41; general knowledge. -/
def Obligations.UnmappedAndReadOnlyAccesses : Prop :=
  ∀ (s : State) (a : Word) (v : Byte),
    ((0x4000 ≤ a.toNat ∧ a.toNat ≤ 0x7FFF) ∨ (0xA000 ≤ a.toNat ∧ a.toNat ≤ 0xBFFF) ∨
        (0xE000 ≤ a.toNat ∧ a.toNat ≤ 0xFEFF) ∨ a.toNat = 0xFFFF →
      s.busRead a = .error (.busError a .read) ∧ s.busWrite a v = .error (.busError a .write)) ∧
      (a.toNat < 0x4000 → (∃ b, s.busRead a = .ok b) ∧ s.busWrite a v = .error (.readOnlyViolation a)) ∧
      ((0x8000 ≤ a.toNat ∧ a.toNat ≤ 0x9FFF) ∨ (0xC000 ≤ a.toNat ∧ a.toNat ≤ 0xDFFF) ∨
          (0xFF00 ≤ a.toNat ∧ a.toNat ≤ 0xFFFE) →
        (∃ b, s.busRead a = .ok b) ∧ ∃ t, s.busWrite a v = .ok t)

/-- The display registers are read and written at their four addresses (20_memory.md R57 (PPU register
interface), 50_ppu.md R328). Through the bus, 0xFF40, 0xFF42, 0xFF44 and 0xFF47 read LCDC, SCY, LY and BGP; a
write of 0xFF40, 0xFF42 or 0xFF47 sets that register and nothing else, and a write of 0xFF44 changes nothing.
The register interface itself fails with UnsupportedRegister at any other address. The spec marks parts of these
rules as its own: derivation. -/
def Obligations.DisplayRegisterPorts : Prop :=
  ∀ (s : State) (v : Byte),
    (s.busRead 0xFF40#16 = .ok s.ppu.lcdc ∧ s.busRead 0xFF42#16 = .ok s.ppu.scy ∧ s.busRead 0xFF44#16 = .ok s.ppu.ly ∧
      s.busRead 0xFF47#16 = .ok s.ppu.bgp) ∧
      (s.busWrite 0xFF40#16 v = .ok { s with ppu := { s.ppu with lcdc := v } } ∧
        s.busWrite 0xFF42#16 v = .ok { s with ppu := { s.ppu with scy := v } } ∧ s.busWrite 0xFF44#16 v = .ok s ∧
        s.busWrite 0xFF47#16 v = .ok { s with ppu := { s.ppu with bgp := v } }) ∧
      ∀ a : Word, a ∉ [0xFF40#16, 0xFF42#16, 0xFF44#16, 0xFF47#16] →
        s.ppu.readRegister a = .error (.unsupportedRegister a) ∧ s.ppu.writeRegister a v = .error (.unsupportedRegister a)

/-- A write of 0xFF50 clears the boot latch and is stored; below 0x4000 reads come from the overlay or the image
(10_state.md R33, R39 (boot latch), 20_memory.md R52, R63 (reads below 0x4000)). With canonical memory, a write
of any value to 0xFF50 succeeds, clears the boot latch, and reads back as stored. While the latch is set, reads
of 0x0000 to 0x00FF give the bytes of a 256-byte overlay; with the latch clear, and at 0x0100 to 0x3FFF always,
reads give the byte of the image, or ROM_PAD past its end. A read changes no state: it has none in its type. The
spec marks parts of these rules as its own: decisions D11, D12, D13; general knowledge. -/
def Obligations.BootOverlayAndRom : Prop :=
  ∀ s : State,
    (∀ v : Byte, Memory.wf s.mem = true → ∃ t, s.busWrite 0xFF50#16 v = .ok t ∧ t.bootLatch = false ∧
        t.busRead 0xFF50#16 = .ok v ∧ t.ppu = s.ppu ∧ t.regs = s.regs) ∧
      (∀ (boot : List Byte) (a : Word) (b : Byte), s.bootLatch = true → s.cfg.boot = some boot → boot.length = 256 →
        a.toNat < 0x100 → boot[a.toNat]? = some b → s.busRead a = .ok b) ∧
      ∀ a : Word, a.toNat < 0x4000 → (s.bootLatch = false ∨ 0x100 ≤ a.toNat) →
        (∀ b, s.cfg.rom[a.toNat]? = some b → s.busRead a = .ok b) ∧
          (s.cfg.rom.length ≤ a.toNat → s.busRead a = .ok s.cfg.romPad)

/-- VRAM is closed to the CPU in OAM and Transfer while the LCD is on, under BlockOamTransfer (50_ppu.md R350,
R351 (VRAM access)). For an address of 0x8000 to 0x9FFF: when VRAM_POLICY is BlockOamTransfer, LCDC bit 7 is 1
and the mode is OAM or Transfer, a read gives VRAM_SENTINEL and a write changes nothing and does not fail;
otherwise a read gives the stored byte and a write stores its byte and nothing else. The spec marks parts of
these rules as its own: decision D15. -/
def Obligations.VramBlocking : Prop :=
  ∀ (s : State) (a : Word) (v : Byte), 0x8000 ≤ a.toNat → a.toNat ≤ 0x9FFF →
    (s.cfg.vramPolicy = .blockOamTransfer ∧ s.ppu.lcdc.getLsbD 7 = true ∧ (s.ppu.mode = .oam ∨ s.ppu.mode = .transfer) →
      s.busRead a = .ok s.cfg.vramSentinel ∧ s.busWrite a v = .ok s) ∧
      (¬(s.cfg.vramPolicy = .blockOamTransfer ∧ s.ppu.lcdc.getLsbD 7 = true ∧
          (s.ppu.mode = .oam ∨ s.ppu.mode = .transfer)) →
        s.busRead a = .ok (Memory.read s.mem a.toNat) ∧
          s.busWrite a v = .ok { s with mem := Memory.write s.mem a.toNat v })

/-- A read gives the byte last written, and a write leaves every other address alone (20_memory.md R74 (memory
consistency), 10_state.md R34, R40). With canonical memory, after a successful write of v at a: in WRAM, HRAM
and the port bytes outside 0xFF40, 0xFF42, 0xFF44 and 0xFF47 a read of a gives v; a read of any other address of
WRAM, HRAM or the ports (LCDC, SCY, BGP and LY included) gives what it gave before; and the stored byte of every
other address is the same. The spec marks parts of these rules as its own: decision D21; general knowledge. -/
def Obligations.ReadAfterWrite : Prop :=
  ∀ (s t : State) (a : Word) (v : Byte), Memory.wf s.mem = true → s.busWrite a v = .ok t →
    ((0xC000 ≤ a.toNat ∧ a.toNat ≤ 0xDFFF) ∨ (0xFF00 ≤ a.toNat ∧ a.toNat ≤ 0xFFFE) →
        a ∉ [0xFF40#16, 0xFF42#16, 0xFF44#16, 0xFF47#16] → t.busRead a = .ok v) ∧
      (∀ b : Word, b ≠ a → ((0xC000 ≤ b.toNat ∧ b.toNat ≤ 0xDFFF) ∨ (0xFF00 ≤ b.toNat ∧ b.toNat ≤ 0xFFFE)) →
        t.busRead b = s.busRead b) ∧
      ∀ b : Word, b ≠ a → Memory.read t.mem b.toNat = Memory.read s.mem b.toNat

/-- Two canonical memories with the same bytes are equal (20_memory.md R74 (the stored byte of each address)).
When two memories are in the canonical form and read the same at every address, they are the same list: the
state holds no hidden difference between equal memories. -/
def Obligations.MemoryExtensionality : Prop :=
  ∀ m m' : Memory, Memory.wf m = true → Memory.wf m' = true → (∀ a, Memory.read m a = Memory.read m' a) → m = m'

/-- A push followed by a pop returns the word and restores SP (40_load_store.md R151, R153 (stack round trip)).
In a state with canonical memory whose SP - 1 and SP - 2 lie in WRAM or HRAM, PUSH qq and then POP qq2 both
complete; SP ends at its value before the push, and qq2 holds the pushed word, with bits 3 to 0 cleared when qq2
is AF. The spec marks parts of these rules as its own: general knowledge; derivation. -/
def Obligations.PushPopRoundTrip : Prop :=
  ∀ (s : State) (q q' : StackReg), Memory.wf s.mem = true →
    ((0xC000 ≤ (s.regs.sp - 1#16).toNat ∧ (s.regs.sp - 1#16).toNat ≤ 0xDFFF) ∨
      (0xFF80 ≤ (s.regs.sp - 1#16).toNat ∧ (s.regs.sp - 1#16).toNat ≤ 0xFFFE)) →
    ((0xC000 ≤ (s.regs.sp - 2#16).toNat ∧ (s.regs.sp - 2#16).toNat ≤ 0xDFFF) ∨
      (0xFF80 ≤ (s.regs.sp - 2#16).toNat ∧ (s.regs.sp - 2#16).toNat ≤ 0xFFFE)) →
    ∃ t u, exec (Instr.push q) s = .next t ∧ exec (Instr.pop q') t = .next u ∧ u.regs.sp = s.regs.sp ∧
      u.regs.getStack q' = if q' = .af then s.regs.getStack q &&& 0xFFF0#16 else s.regs.getStack q

/-- An instruction changes no 8-bit register and no SP but its own destinations (10_state.md R21, R26 (who
writes the registers), 40_load_store.md R121 to R154, 41_alu8.md, 42_alu16.md, 43_rotate_shift_bit.md,
44_control.md, 45_system.md). For every instruction, every 8-bit register that is not one of its destinations
(writes8 lists them form by form: the named register, both halves of a pair, A of an accumulator form, H and L
of the HL+ and HL- forms) keeps its value, and SP keeps its value unless the form writes SP (writesSp: the SP
forms, PUSH, POP, CALL, RET, RETI and RST). The spec marks parts of these rules as its own: decisions D5, D37;
general knowledge; derivation. -/
def Obligations.RegisterFrame : Prop :=
  ∀ (i : Instr) (s t : State), exec i s = .next t →
    (∀ r, r ∉ i.writes8 → t.regs.get8 r = s.regs.get8 r) ∧ (i.writesSp = false → t.regs.sp = s.regs.sp)

/-- An instruction changes no flag but those its family writes (10_state.md R25, R28 (which families write which
flag)). For every instruction and each of the flags Z, N, Hf and Cf that the table of R28 marks - for its family
(writesFlags), the flag keeps its value. The spec marks parts of these rules as its own: derivation. -/
def Obligations.FlagFrame : Prop :=
  ∀ (i : Instr) (s t : State), exec i s = .next t →
    (i.writesFlags.z = false → t.regs.zf = s.regs.zf) ∧ (i.writesFlags.n = false → t.regs.nf = s.regs.nf) ∧
      (i.writesFlags.h = false → t.regs.hf = s.regs.hf) ∧ (i.writesFlags.c = false → t.regs.cf = s.regs.cf)

/-- An instruction changes no byte of memory but those it stores to (40_load_store.md R144, R150 (effective
addresses), 20_memory.md R70, 50_ppu.md R334). For every instruction, every address that is not among the
addresses the form stores to (storeAddrs computes them from the registers, with the expressions the meanings
use; none for a form that stores nothing) keeps its stored byte; LCDC, SCY and BGP change only when 0xFF40,
0xFF42 or 0xFF47 is among them, the boot latch only when 0xFF50 is, and the images never. The spec marks parts
of these rules as its own: decision D37; general knowledge; derivation. -/
def Obligations.MemoryFrame : Prop :=
  ∀ (i : Instr) (s t : State), exec i s = .next t →
    (∀ a : Word, a ∉ i.storeAddrs s → Memory.read t.mem a.toNat = Memory.read s.mem a.toNat) ∧
      (0xFF40#16 ∉ i.storeAddrs s → t.ppu.lcdc = s.ppu.lcdc) ∧ (0xFF42#16 ∉ i.storeAddrs s → t.ppu.scy = s.ppu.scy) ∧
      (0xFF47#16 ∉ i.storeAddrs s → t.ppu.bgp = s.ppu.bgp) ∧
      (0xFF50#16 ∉ i.storeAddrs s → t.bootLatch = s.bootLatch) ∧ t.cfg = s.cfg

/-- ime, the pending toggle and the status change only by their own instructions (60_exceptions.md R367 (who
writes ime), 10_state.md R31, R42, 70_reset_and_hazards.md R402). For every instruction: ime is the same unless
it is RETI, the pending toggle is the same unless it is DI or EI, and from a running state the status becomes
Halted only by HALT and STOP, which never leave it otherwise, and stays Running or becomes Faulted by any other
instruction. The spec marks parts of these rules as its own: decisions D26, D30, D32. -/
def Obligations.EngineStateFrame : Prop :=
  ∀ (i : Instr) (s t : State), exec i s = .next t →
    (i ≠ .reti → t.ime = s.ime) ∧ (i ≠ .di → i ≠ .ei → t.imePend = s.imePend) ∧
      (s.status = .running → (t.status = .halted ↔ i = .halt ∨ ∃ n, i = .stop n))

/-- A completed instruction charges its cost and advances the PPU by it, once (70_reset_and_hazards.md R398,
R400, R415 (costs), 50_ppu.md R353). When an instruction executed in a running state does not fault,
cycles_total grows by the cost of its opcode on the path taken, and the PPU is the PPU of the start, with the
three display registers as the instruction left them, advanced by that cost over the memory as the instruction
left it. The spec marks parts of these rules as its own: decisions D1, D16. -/
def Obligations.CycleAccounting : Prop :=
  ∀ (i : Instr) (s t : State), s.status = .running → exec i s = .next t → (∀ rec, t.status ≠ .faulted rec) →
    t.cyclesTotal = s.cyclesTotal + instrCost s.cfg i.opcode (i.taken s.regs) ∧
      t.ppu = Ppu.advance s.cfg.shades t.mem (instrCost s.cfg i.opcode (i.taken s.regs))
        { s.ppu with lcdc := t.ppu.lcdc, scy := t.ppu.scy, bgp := t.ppu.bgp }

/-- No step sets the boot latch, changes the configuration, drops a frame or lowers the cycle count (10_state.md
R33 (the latch is never set again), 50_ppu.md R346, 20_memory.md R62, 70_reset_and_hazards.md R400). Over every
step that answers a next state: the configuration is the same, a set boot latch was set before, the frames
handed off before stand at the front of those after, and cycles_total does not decrease. The spec marks parts of
these rules as its own: decisions D11, D25; general knowledge. -/
def Obligations.StepIsMonotone : Prop :=
  ∀ s t : State, step s = .next t →
    t.cfg = s.cfg ∧ (t.bootLatch = true → s.bootLatch = true) ∧ s.ppu.framesOut <+: t.ppu.framesOut ∧
      s.cyclesTotal ≤ t.cyclesTotal

/-- Every step keeps the memory canonical and the PPU in its form (20_memory.md R52 (the stores), 50_ppu.md
R323, R326, R327, R342 (the PPU between steps)). For every state that satisfies the invariant, a step that
answers a next state leads to one that satisfies it. The invariant: the memory is in canonical form and lists
only addresses of VRAM, WRAM, the ports and HRAM; the countdown lies in 1 to the duration of the mode; LY is
below 144 in the visible modes and 144 + (4560 - countdown) div 456 in VBlank; the frame buffer and every frame
handed off have 144 rows of 160 values. The spec marks parts of these rules as its own: decisions D12, D17, D19.
-/
def Obligations.StepKeepsInvariant : Prop :=
  ∀ s t : State, s.Inv → step s = .next t → t.Inv

/-- The reset state satisfies the invariant (10_state.md R44 (reset values), 93_implementation_defined.md (open
values)). State.reset satisfies the invariant, and it is the reset of R44 under START = PowerOn with no image
loaded and with every value the spec leaves open at the model choices of log 2, log 3, log 4 and log 5. The spec
marks parts of these rules as its own: decisions D6, D7, D8, D9, D10, D39; general knowledge. -/
def Obligations.ResetSatisfiesInvariant : Prop :=
  State.reset.Inv ∧ State.reset = resetState standardInput []

/-- Every load gives a machine in the invariant, with the memories that INIT_RAM gives (70_reset_and_hazards.md
R390 (load), 92_eei_decisions.md D9 (INIT_RAM)). When a load succeeds the machine satisfies the invariant; each
byte of VRAM, WRAM, the ports and HRAM is the last one INIT_RAM gives for its address, and 0 where it gives none
(the model choice of log 3 and log 20); and pixel x of row y of the frame buffer is the initial value at y * 160
+ x, 0 where none is given (log 4). The spec marks parts of these rules as its own: decision D14. -/
def Obligations.LoadedMachineSatisfiesInvariant : Prop :=
  ∀ (inp : LoadInput) (s : State), load inp = .ok s →
    s.Inv ∧ (∀ (before after : List Host.Cell) (a : Nat) (v : Byte), inp.initRam = before ++ (a, v) :: after →
        (∀ w, (a, w) ∉ after) → ramAddr a = true → Memory.read s.mem a = v) ∧
      (∀ a, (∀ v, (a, v) ∉ inp.initRam) → Memory.read s.mem a = 0x00#8) ∧
      ∀ x y, x < 160 → y < 144 → ∃ row, s.ppu.fb[y]? = some row ∧ row[x]? = some (inp.initFb.getD (y * 160 + x) 0#32)

/-- With LCDC bit 7 clear the advance does nothing (50_ppu.md R324 (LCD enable), 70_reset_and_hazards.md R400).
For every cycle count, a PPU whose LCDC bit 7 is 0 keeps mode, countdown, LY, frame buffer and frames through
the advance; an instruction that leaves bit 7 clear charges its cost all the same. The spec marks parts of these
rules as its own: decisions D16, D18; general knowledge. -/
def Obligations.LcdOffFreezesDisplay : Prop :=
  (∀ (shades : ShadeColors) (mem : Memory) (c : Nat) (p : Ppu), p.lcdc.getLsbD 7 = false → p.advance shades mem c = p) ∧
    ∀ (s : State) (c : Nat), s.ppu.lcdc.getLsbD 7 = false →
      (s.retire c).ppu = s.ppu ∧ (s.retire c).cyclesTotal = s.cyclesTotal + c

/-- Two advances are one advance by the sum (50_ppu.md R325 (advance properties)). For a PPU in its form between
steps (LY agreeing with the countdown in VBlank, a countdown of at least 1), advancing by a and then by b is
advancing by a + b, on or off. The spec marks parts of these rules as its own: derivation. -/
def Obligations.AdvanceIsAdditive : Prop :=
  ∀ (shades : ShadeColors) (mem : Memory) (a b : Nat) (p : Ppu), p.wf = true →
    (p.advance shades mem a).advance shades mem b = p.advance shades mem (a + b)

/-- A mode ends exactly when its countdown does, with its exit action and the next duration (50_ppu.md R321 to
R323 (durations, countdown, advance), 50_ppu.md R330 to R333 (exit actions), 50_ppu.md R346 (hand-off)). With
the LCD on, an advance by less than the countdown in OAM, Transfer or HBlank only counts it down; an advance by
exactly the countdown goes from OAM to Transfer (175), from Transfer to HBlank (207) with row LY rendered, from
HBlank to OAM (83) with LY one higher when that is below 144 and else to VBlank (4560) with LY 144, and from
VBlank to OAM (83) with LY 0 and the frame buffer handed off. HBlank is taken with LY below 144, as in every
reachable state. The spec marks parts of these rules as its own: decisions D17, D25; derivation. -/
def Obligations.ModeTransitions : Prop :=
  ∀ (shades : ShadeColors) (mem : Memory) (p : Ppu), p.lcdc.getLsbD 7 = true → 1 ≤ p.countdown →
    (∀ c, c < p.countdown → p.mode ≠ .vblank → p.advance shades mem c = { p with countdown := p.countdown - c }) ∧
      (p.mode = .oam → p.advance shades mem p.countdown = { p with mode := .transfer, countdown := 175 }) ∧
      (p.mode = .transfer → p.advance shades mem p.countdown =
        { p with mode := .hblank, countdown := 207, fb := p.fb.set p.ly.toNat (scanline shades mem p.scy p.bgp p.ly) }) ∧
      (p.mode = .hblank → p.ly.toNat < 143 →
        p.advance shades mem p.countdown = { p with mode := .oam, countdown := 83, ly := p.ly + 1#8 }) ∧
      (p.mode = .hblank → p.ly.toNat = 143 →
        p.advance shades mem p.countdown = { p with mode := .vblank, countdown := 4560, ly := 144#8 }) ∧
      (p.mode = .vblank → p.advance shades mem p.countdown =
        { p with mode := .oam, countdown := 83, ly := 0#8, framesOut := p.framesOut ++ [p.fb] })

/-- In VBlank LY runs from 144 to 153 by the countdown (50_ppu.md R327 (LY in VBlank)). With the LCD on, in
VBlank with a countdown of at most 4560, an advance by less than the countdown stays in VBlank and leaves LY at
144 + (4560 - the new countdown) div 456, which lies in 144 to 153 and is 144 at countdown 4560. The spec marks
parts of these rules as its own: decision D19. -/
def Obligations.VBlankScanlines : Prop :=
  ∀ (shades : ShadeColors) (mem : Memory) (c : Nat) (p : Ppu), p.lcdc.getLsbD 7 = true → p.mode = .vblank →
    p.countdown ≤ 4560 → c < p.countdown →
    (p.advance shades mem c).mode = .vblank ∧ (p.advance shades mem c).countdown = p.countdown - c ∧
      (p.advance shades mem c).ly.toNat = 144 + (4560 - (p.countdown - c)) / 456 ∧
      144 ≤ (p.advance shades mem c).ly.toNat ∧ (p.advance shades mem c).ly.toNat ≤ 153

/-- A rendered pixel is its tile bits through BGP and the shade table (50_ppu.md R335 to R342 (rendering)).
Pixel x of a rendered line l is the shade colour of BGP[2ci+1:2ci], where ci has bit 7 - (x mod 8) of the tile
row low byte and high byte, the tile row is row (l + SCY) mod 256, mod 8, of the tile whose index is at 0x9800 +
32 * ((l + SCY) mod 256 div 8) + x div 8, and the tile data of tile t start at 0x8000 + 16t. A rendered line has
160 pixels, and rendering changes row LY of the frame buffer alone. The spec marks parts of these rules as its
own: decisions D22, D23, D24; general knowledge; derivation. -/
def Obligations.RenderedPixel : Prop :=
  ∀ (shades : ShadeColors) (mem : Memory) (scy bgp l : Byte) (x : Nat), x < 160 →
    let row := (l.toNat + scy.toNat) % 256
    let tile := (Memory.read mem (0x9800 + (32 * (row / 8) + x / 8))).toNat
    let lo := Memory.read mem (0x8000 + (16 * tile + 2 * (row % 8)))
    let hi := Memory.read mem (0x8000 + (16 * tile + 2 * (row % 8) + 1))
    let ci := 2 * (if hi.getLsbD (7 - x % 8) then 1 else 0) + (if lo.getLsbD (7 - x % 8) then 1 else 0)
    let shade := 2 * (if bgp.getLsbD (2 * ci + 1) then 1 else 0) + (if bgp.getLsbD (2 * ci) then 1 else 0)
    (scanline shades mem scy bgp l).length = 160 ∧
      (scanline shades mem scy bgp l)[x]? =
        [shades.shade0, shades.shade1, shades.shade2, shades.shade3][shade]? ∧
      ∀ (p : Ppu) (y : Nat), y ≠ p.ly.toNat → (p.renderLine shades mem).fb[y]? = p.fb[y]?

/-- A visible line takes 465 cycles (50_ppu.md R321, R354 (timing)). With the LCD on, from the start of OAM of
line l below 144, an advance by 465 cycles renders row l and leads to the start of OAM of line l + 1, or of
VBlank with LY 144 after line 143. The spec marks parts of these rules as its own: general knowledge;
derivation. -/
def Obligations.VisibleLineTiming : Prop :=
  ∀ (shades : ShadeColors) (mem : Memory) (p : Ppu), p.lcdc.getLsbD 7 = true → p.mode = .oam → p.countdown = 83 →
    p.ly.toNat < 144 →
    p.advance shades mem 465 =
      { p with
        fb := p.fb.set p.ly.toNat (scanline shades mem p.scy p.bgp p.ly)
        ly := p.ly + 1#8
        mode := if p.ly.toNat = 143 then .vblank else .oam
        countdown := if p.ly.toNat = 143 then 4560 else 83 }

/-- A frame takes 71,520 cycles and hands off exactly its 144 rendered lines (50_ppu.md R325, R346, R354 (frame
timing and hand-off)). With the LCD on, from the start of OAM of line 0 with a frame buffer of 144 rows, an
advance by 71,520 cycles returns to the start of OAM of line 0, with the frame buffer made of the 144 scanlines
rendered from VRAM, SCY and BGP, and exactly that one frame appended to the frames handed off. The spec marks
parts of these rules as its own: decision D25; derivation. -/
def Obligations.FrameTiming : Prop :=
  ∀ (shades : ShadeColors) (mem : Memory) (p : Ppu), p.lcdc.getLsbD 7 = true → p.mode = .oam → p.countdown = 83 →
    p.ly = 0#8 → p.fb.length = 144 →
    p.advance shades mem 71520 =
      { p with
        fb := (List.range 144).map fun l => scanline shades mem p.scy p.bgp (BitVec.ofNat 8 l)
        framesOut := p.framesOut ++ [(List.range 144).map fun l => scanline shades mem p.scy p.bgp (BitVec.ofNat 8 l)] }

/-- The reset values of both START settings (10_state.md R44 (reset values)). Under PowerOn: A to L, the flags
and SP from RESET_REGS, PC 0, latch set, LCDC, SCY and BGP 0. Under PostBoot: A 01, F B0, B 00, C 13, D 00, E
D8, H 01, L 4D, SP FFFE, PC 0100, latch clear, LCDC 91, SCY 00, BGP FC. Under both: the low nibble of F 0, ime =
IME_RESET (default false), no pending toggle, cycles_total 0, no frames, LY 0, OAM with countdown 83, Running.
Memories and frame buffer are INIT_RAM, any value. The spec marks parts of these rules as its own: decisions D6,
D7, D8, D9, D10, D39; general knowledge. -/
def Obligations.ResetValues : Prop :=
  ∀ (inp : LoadInput) (rom : List Byte),
    ((resetState inp rom).ime = inp.imeReset ∧ (resetState inp rom).imePend = none ∧ (resetState inp rom).cyclesTotal = 0 ∧
      (resetState inp rom).ppu.framesOut = [] ∧ (resetState inp rom).ppu.ly = 0#8 ∧ (resetState inp rom).ppu.mode = .oam ∧
      (resetState inp rom).ppu.countdown = 83 ∧ (resetState inp rom).ppu.scy = 0x00#8 ∧
      (resetState inp rom).status = .running ∧ (resetState inp rom).regs.f &&& 0x0F#8 = 0x00#8) ∧
      standardInput.imeReset = false ∧
      (inp.start = .powerOn →
        (resetState inp rom).regs = ⟨inp.resetRegs.a, inp.resetRegs.b, inp.resetRegs.c, inp.resetRegs.d, inp.resetRegs.e,
          inp.resetRegs.h, inp.resetRegs.l, inp.resetRegs.zf, inp.resetRegs.nf, inp.resetRegs.hf, inp.resetRegs.cf,
          inp.resetRegs.sp, 0x0000#16⟩ ∧ (resetState inp rom).bootLatch = true ∧ (resetState inp rom).ppu.lcdc = 0x00#8 ∧
        (resetState inp rom).ppu.bgp = 0x00#8) ∧
      (inp.start = .postBoot →
        (resetState inp rom).regs = ⟨0x01#8, 0x00#8, 0x13#8, 0x00#8, 0xD8#8, 0x01#8, 0x4D#8, true, false, true, true,
          0xFFFE#16, 0x0100#16⟩ ∧ (resetState inp rom).regs.f = 0xB0#8 ∧ (resetState inp rom).bootLatch = false ∧
        (resetState inp rom).ppu.lcdc = 0x91#8 ∧ (resetState inp rom).ppu.bgp = 0xFC#8)

/-- A load checks the image and then resets (60_exceptions.md R377 (load errors), 70_reset_and_hazards.md R390,
R394 (load)). A load fails with Unreadable without an image, with TooShort below 0x148 bytes, and with
UnsupportedMapper(b) when the byte b at 0x147 is not 0; else it answers the reset state that holds the whole
image, and the overlay exactly when 256 bytes were supplied. The spec marks parts of these rules as its own:
decision D14; general knowledge. -/
def Obligations.LoadChecks : Prop :=
  ∀ inp : LoadInput,
    (inp.rom = none → load inp = .error (.loadError .unreadable)) ∧
      ∀ rom, inp.rom = some rom →
        (rom.length < 0x148 → load inp = .error (.loadError .tooShort)) ∧
          ∀ b, rom[0x147]? = some b → 0x148 ≤ rom.length →
            (b ≠ 0x00#8 → load inp = .error (.loadError (.unsupportedMapper b))) ∧
              (b = 0x00#8 → load inp = .ok (resetState inp rom) ∧ (resetState inp rom).cfg.rom = rom ∧
                ∀ boot, (resetState inp rom).cfg.boot = some boot ↔ inp.boot = some boot ∧ boot.length = 256)

/-- At the default parameters each instruction costs what its rule says (70_reset_and_hazards.md R413, R414
(costs)). The default configuration changes nothing in CYCLE_COST and has CB_OVERHEAD = 4; with these the cost
of every instruction but the undefined bytes, taken and not taken, is the number its own rule gives (ruleCost,
written from the instruction rules, where exec looks the opcode up in the table of R413 and R414). The spec
marks parts of these rules as its own: decision D34; general knowledge. -/
def Obligations.DefaultCosts : Prop :=
  (Config.standard.costChanges = [] ∧ Config.standard.cbOverhead = 4) ∧
    ∀ (cfg : Config) (i : Instr), cfg.costChanges = [] → cfg.cbOverhead = 4 → (∀ u, i ≠ Instr.undefined u) →
      instrCost cfg i.opcode true = i.ruleCost.taken ∧ instrCost cfg i.opcode false = i.ruleCost.notTaken

/-- The pairs and AF are views of the 8-bit registers and the flags (R23, R24). BC, DE and HL read as high * 256
+ low and a write of a pair writes its two halves; F reads the flags in bits 7 to 4 with bits 3 to 0 zero; AF
reads A and F, and a write of AF sets A and the four flags and drops bits 3 to 0. -/
def Obligations.RegisterViews : Prop :=
  ∀ (g : RegFile) (v : Word),
    (g.bc.toNat = g.b.toNat * 256 + g.c.toNat ∧ g.de.toNat = g.d.toNat * 256 + g.e.toNat ∧
      g.hl.toNat = g.h.toNat * 256 + g.l.toNat ∧ g.af.toNat = g.a.toNat * 256 + g.f.toNat) ∧
      g.set16 .bc v = { g with b := v.extractLsb' 8 8, c := v.extractLsb' 0 8 } ∧
      g.set16 .de v = { g with d := v.extractLsb' 8 8, e := v.extractLsb' 0 8 } ∧
      g.set16 .hl v = { g with h := v.extractLsb' 8 8, l := v.extractLsb' 0 8 } ∧
      g.f.toNat = 128 * b2n g.zf + 64 * b2n g.nf + 32 * b2n g.hf + 16 * b2n g.cf ∧
      (g.setStack .af v).af = v &&& 0xFFF0#16 ∧
      g.setStack .af v = { g with
        a := v.extractLsb' 8 8
        zf := v.getLsbD 7
        nf := v.getLsbD 6
        hf := v.getLsbD 5
        cf := v.getLsbD 4 }

/-- LD between registers, of immediates and of SP completes with the loaded value (40_load_store.md R121, R124,
R141, R143). LD r,r2, LD r,n, LD rr,nn and LD SP,HL complete in every state: the destination takes the source
value, PC moves past the instruction, and nothing else changes but the cycle count and the PPU. The spec marks
parts of these rules as its own: general knowledge. -/
def Obligations.RegisterLoads : Prop :=
  ∀ s : State,
    (∀ r r', Completes (Instr.ldReg r r') s ((s.regs.past 1).set8 r (s.regs.get8 r'))) ∧
      (∀ r n, Completes (Instr.ldRegImm r n) s ((s.regs.past 2).set8 r n)) ∧
      (∀ rr nn, Completes (Instr.ldPairImm rr nn) s ((s.regs.past 3).set16 rr nn)) ∧
      Completes .ld_SP_HL s { s.regs.past 1 with sp := s.regs.hl }

/-- Loads from memory complete with the byte read, and fault when the read fails (40_load_store.md R122, R126,
R127, R130, R132, R133, R135, R137, R138). LD r,(HL), LD A,(BC), LD A,(DE), LD A,(nn), LDH A,(n), LD A,(C), LD
A,(HL+) and LD A,(HL-) read the byte at HL, BC, DE, nn, 0xFF00 + n, 0xFF00 + C or HL; when the read succeeds
they complete with it in the destination, HL one up or down in the last two; when it fails they fault with its
fault and change nothing else. The spec marks parts of these rules as its own: general knowledge. -/
def Obligations.MemoryLoads : Prop :=
  ∀ s : State,
    (∀ r, Loads (Instr.ldRegMem r) s s.regs.hl fun v => (s.regs.past 1).set8 r v) ∧
      Loads .ld_A_mBC s s.regs.bc (fun v => { s.regs.past 1 with a := v }) ∧
      Loads .ld_A_mDE s s.regs.de (fun v => { s.regs.past 1 with a := v }) ∧
      (∀ nn, Loads (.ld_A_mnn nn) s nn fun v => { s.regs.past 3 with a := v }) ∧
      (∀ n : Byte, Loads (.ldh_A_ion n) s (0xFF00#16 + n.zeroExtend 16) fun v => { s.regs.past 2 with a := v }) ∧
      Loads .ld_A_ioC s (0xFF00#16 + s.regs.c.zeroExtend 16) (fun v => { s.regs.past 1 with a := v }) ∧
      Loads .ld_A_mHLinc s s.regs.hl (fun v => ({ s.regs.past 1 with a := v } : RegFile).set16 .hl (s.regs.hl + 1#16)) ∧
      Loads .ld_A_mHLdec s s.regs.hl (fun v => ({ s.regs.past 1 with a := v } : RegFile).set16 .hl (s.regs.hl - 1#16))

/-- Stores of a byte complete after the write, and fault when it fails (40_load_store.md R123, R125, R128, R129,
R131, R132, R134, R136, R139, R140). LD (HL),r, LD (HL),n, LD (BC),A, LD (DE),A, LD (nn),A, LDH (n),A, LD (C),A,
LD (HL+),A and LD (HL-),A write the source byte at HL, BC, DE, nn, 0xFF00 + n or 0xFF00 + C; when the write
succeeds they complete in the state it gives, HL one up or down in the last two; when it fails they fault with
its fault and change nothing else. The spec marks parts of these rules as its own: general knowledge. -/
def Obligations.ByteStores : Prop :=
  ∀ s : State,
    (∀ r, Stores (Instr.ldMemReg r) s s.regs.hl (s.regs.get8 r) (s.regs.past 1)) ∧
      (∀ n, Stores (.ld_mHL_n n) s s.regs.hl n (s.regs.past 2)) ∧
      Stores .ld_mBC_A s s.regs.bc s.regs.a (s.regs.past 1) ∧ Stores .ld_mDE_A s s.regs.de s.regs.a (s.regs.past 1) ∧
      (∀ nn, Stores (.ld_mnn_A nn) s nn s.regs.a (s.regs.past 3)) ∧
      (∀ n : Byte, Stores (.ldh_ion_A n) s (0xFF00#16 + n.zeroExtend 16) s.regs.a (s.regs.past 2)) ∧
      Stores .ld_ioC_A s (0xFF00#16 + s.regs.c.zeroExtend 16) s.regs.a (s.regs.past 1) ∧
      Stores .ld_mHLinc_A s s.regs.hl s.regs.a ((s.regs.past 1).set16 .hl (s.regs.hl + 1#16)) ∧
      Stores .ld_mHLdec_A s s.regs.hl s.regs.a ((s.regs.past 1).set16 .hl (s.regs.hl - 1#16))

/-- LD (nn),SP and PUSH make two byte writes in order, and a second failure keeps the first (40_load_store.md
R142, R150, R152 (stores of a word)). LD (nn),SP writes the low byte of SP at nn and then the high byte at nn +
1; PUSH qq writes the high byte of qq at SP - 1 and then the low byte at SP - 2 and lowers SP by 2. When both
writes succeed the instruction completes in the state they give; when the first fails nothing changes but the
status; when the second fails the first stays written and the registers, SP included, are those of the start.
The spec marks parts of these rules as its own: decision D37; general knowledge. -/
def Obligations.WordStoreAndPush : Prop :=
  ∀ s : State,
    (∀ nn, StoresTwo (.ld_mnn_SP nn) s nn (s.regs.sp.extractLsb' 0 8) (nn + 1#16) (s.regs.sp.extractLsb' 8 8) (s.regs.past 3)) ∧
      ∀ q, Pushes (Instr.push q) s (s.regs.getStack q) (s.regs.past 1)

/-- POP reads the low byte at SP and the high byte at SP + 1 (40_load_store.md R151, R153, R154). POP qq reads
SP and then SP + 1; when both reads succeed it completes with high:low in the pair and SP two higher; POP AF
sets A and the flags from the word and drops bits 3 to 0; when a read fails it faults and SP and the registers
are unchanged. The spec marks parts of these rules as its own: general knowledge; derivation. -/
def Obligations.PopResult : Prop :=
  ∀ (s : State) (q : StackReg), Pops (Instr.pop q) s fun v =>
    { s with regs := ({ s.regs.past 1 with sp := s.regs.sp + 2#16 } : RegFile).setStack q v }

/-- ADD and ADC in their three operand forms (41_alu8.md R160, R161 (operand forms, alu_add), 41_alu8.md R166 to
R171 (ADD, ADC)). For a register, the byte at HL and an immediate, ADD leaves A + v in A and ADC leaves A + v +
Cf, modulo 256; Z tells a zero result, N is 0, Hf tells that the low nibbles and the carry in sum above 15, Cf
that the bytes and the carry in sum above 255. A failed read of HL faults. The operand forms (R160) and ADD and
ADC themselves (R166 to R171) are marked by the spec as from general knowledge, not in source; alu_add is R161.
-/
def Obligations.AddResult : Prop :=
  ∀ s : State,
    (AluForms .add s fun v g => { g with
      a := g.a + v
      zf := g.a + v == 0#8
      nf := false
      hf := decide (g.a.toNat % 16 + v.toNat % 16 > 15)
      cf := decide (g.a.toNat + v.toNat > 255) }) ∧
      AluForms .adc s fun v g => { g with
        a := g.a + v + bitByte g.cf
        zf := g.a + v + bitByte g.cf == 0#8
        nf := false
        hf := decide (g.a.toNat % 16 + v.toNat % 16 + b2n g.cf > 15)
        cf := decide (g.a.toNat + v.toNat + b2n g.cf > 255) }

/-- SUB, SBC and CP in their three operand forms (41_alu8.md R160, R162 (operand forms, alu_sub), 41_alu8.md
R172 to R177 (SUB, SBC), 41_alu8.md R187 to R189 (CP)). For a register, the byte at HL and an immediate, SUB
leaves A - v in A and SBC leaves A - v - Cf, modulo 256, and CP leaves A alone; Z tells a zero difference, N is
1, Hf a borrow into bit 3 and Cf a borrow. For CP, Z holds exactly when A = v and Cf exactly when A is below v.
A failed read of HL faults. The operand forms (R160) and SUB and SBC themselves (R172 to R177) are marked by the
spec as from general knowledge, not in source; alu_sub is R162, and its comparison is the source's (CP). -/
def Obligations.SubtractResult : Prop :=
  ∀ s : State,
    (AluForms .sub s fun v g => { g with
      a := g.a - v
      zf := g.a - v == 0#8
      nf := true
      hf := decide (g.a.toNat % 16 < v.toNat % 16)
      cf := decide (g.a.toNat < v.toNat) }) ∧
      (AluForms .sbc s fun v g => { g with
        a := g.a - v - bitByte g.cf
        zf := g.a - v - bitByte g.cf == 0#8
        nf := true
        hf := decide (g.a.toNat % 16 < v.toNat % 16 + b2n g.cf)
        cf := decide (g.a.toNat < v.toNat + b2n g.cf) }) ∧
      AluForms .cp s fun v g => { g with
        zf := decide (g.a = v)
        nf := true
        hf := decide (g.a.toNat % 16 < v.toNat % 16)
        cf := decide (g.a.toNat < v.toNat) }

/-- AND, XOR and OR in their three operand forms (41_alu8.md R163 to R165, R178 to R186 (logic)). For a
register, the byte at HL and an immediate, AND, XOR and OR leave the bitwise result in A; Z tells a zero result,
N and Cf are 0, Hf is 1 for AND and 0 for the others. A failed read of HL faults. The spec marks parts of these
rules as its own: general knowledge. -/
def Obligations.LogicResult : Prop :=
  ∀ s : State,
    (AluForms .and s fun v g => { g with a := g.a &&& v, zf := (g.a &&& v) == 0#8, nf := false, hf := true, cf := false }) ∧
      (AluForms .xor s fun v g =>
        { g with a := g.a ^^^ v, zf := (g.a ^^^ v) == 0#8, nf := false, hf := false, cf := false }) ∧
      AluForms .or s fun v g => { g with a := g.a ||| v, zf := (g.a ||| v) == 0#8, nf := false, hf := false, cf := false }

/-- INC and DEC of a register and of the byte at HL (41_alu8.md R190 to R195 (INC, DEC)). INC and DEC replace
the operand by it plus or minus 1, modulo 256; Z tells a zero result, N is 0 for INC and 1 for DEC, Hf tells a
low nibble F for INC and 0 for DEC; Cf is unchanged. The (HL) form reads and then writes HL, and a failure of
either faults with nothing changed. The spec marks parts of these rules as its own: general knowledge. -/
def Obligations.IncDecResult : Prop :=
  ∀ (s : State) (x : Src8),
    Modifies (Instr.inc8 x) s 1 x (fun v => v + 1#8)
        (fun v g => { g with zf := v + 1#8 == 0#8, nf := false, hf := decide (v.toNat % 16 = 15) }) ∧
      Modifies (Instr.dec8 x) s 1 x (fun v => v - 1#8)
        (fun v g => { g with zf := v - 1#8 == 0#8, nf := true, hf := decide (v.toNat % 16 = 0) })

/-- DAA, CPL, SCF and CCF (41_alu8.md R196 to R199). DAA adds (after an addition) or subtracts (after a
subtraction) 6 when Hf is set or, after an addition, the low nibble is above 9, and 0x60 when Cf is set or,
after an addition, A is above 0x99; Z tells a zero A, N is unchanged, Hf is 0, Cf is set exactly when it was or
the second addition case held. CPL complements A and sets N and Hf. SCF sets Cf and CCF inverts it, both clear N
and Hf. The spec marks parts of these rules as its own: general knowledge. -/
def Obligations.DecimalAndFlagResult : Prop :=
  ∀ s : State,
    (let low : Byte := if s.regs.hf || (!s.regs.nf && decide (s.regs.a.toNat % 16 > 9)) then 0x06#8 else 0#8
      let high : Byte := if s.regs.cf || (!s.regs.nf && decide (s.regs.a.toNat > 0x99)) then 0x60#8 else 0#8
      let a := if s.regs.nf then s.regs.a - low - high else s.regs.a + low + high
      Completes .daa s { s.regs.past 1 with
        a := a
        zf := a == 0#8
        hf := false
        cf := s.regs.cf || (!s.regs.nf && decide (s.regs.a.toNat > 0x99)) }) ∧
      Completes .cpl s { s.regs.past 1 with a := 0xFF#8 - s.regs.a, nf := true, hf := true } ∧
      Completes .scf s { s.regs.past 1 with nf := false, hf := false, cf := true } ∧
      Completes .ccf s { s.regs.past 1 with nf := false, hf := false, cf := !s.regs.cf }

/-- INC rr, DEC rr, ADD HL,rr, ADD SP,e and LD HL,SP+e (42_alu16.md R210 to R215 (16-bit arithmetic)). INC rr
and DEC rr move the pair by 1 modulo 2^16 and change no flag. ADD HL,rr leaves the sum in HL, Z as it was, N 0,
Hf and Cf the carries out of bits 11 and 15. ADD SP,e and LD HL,SP+e leave SP plus the sign-extended operand
byte in SP or HL, Z and N 0, Hf and Cf the carries out of bits 3 and 7 of the unsigned operand byte. The spec
marks these instructions (existence, encoding and semantics: the whole file) as from general knowledge, not in
source. -/
def Obligations.WordArithmeticResult : Prop :=
  ∀ s : State,
    (∀ rr, Completes (Instr.inc16 rr) s ((s.regs.past 1).set16 rr (s.regs.get16 rr + 1#16))) ∧
      (∀ rr, Completes (Instr.dec16 rr) s ((s.regs.past 1).set16 rr (s.regs.get16 rr - 1#16))) ∧
      (∀ rr, Completes (Instr.addHl rr) s { (s.regs.past 1).set16 .hl (s.regs.hl + s.regs.get16 rr) with
        nf := false
        hf := decide (s.regs.hl.toNat % 0x1000 + (s.regs.get16 rr).toNat % 0x1000 > 0xFFF)
        cf := decide (s.regs.hl.toNat + (s.regs.get16 rr).toNat > 0xFFFF) }) ∧
      ∀ n : Byte,
        Completes (.add_SP_e n.toInt) s { s.regs.past 2 with
          sp := s.regs.sp + n.signExtend 16
          zf := false
          nf := false
          hf := decide (s.regs.sp.toNat % 16 + n.toNat % 16 > 15)
          cf := decide (s.regs.sp.toNat % 256 + n.toNat > 255) } ∧
        Completes (.ld_HL_SPe n.toInt) s { (s.regs.past 2).set16 .hl (s.regs.sp + n.signExtend 16) with
          zf := false
          nf := false
          hf := decide (s.regs.sp.toNat % 16 + n.toNat % 16 > 15)
          cf := decide (s.regs.sp.toNat % 256 + n.toNat > 255) }

/-- Rotates, shifts and SWAP, of A and of the CB operands (43_rotate_shift_bit.md R230 to R251 (rotates and
shifts)). RLCA, RRCA, RLA and RRA replace A by its rotation, with Z a zero result under FromResult and 0 under
AlwaysClear; the CB forms replace a register or the byte at HL, with Z a zero result; N and Hf are 0 and Cf
takes the bit moved out. rotated gives the functions bit by bit: the circular rotates, the rotates through the
old Cf, the shifts filling with 0 or bit 7, and SWAP with bit out 0. The (HL) form reads and then writes HL, and
a failure of either faults with nothing changed. The spec marks parts of these rules as its own: decisions D35,
D36; general knowledge. -/
def Obligations.RotateResult : Prop :=
  ∀ s : State,
    (∀ i f, (i, f) ∈ [(Instr.rlca, RotOp.rlc), (Instr.rrca, RotOp.rrc), (Instr.rla, RotOp.rl), (Instr.rra, RotOp.rr)] →
      Completes i s { s.regs.past 1 with
        a := (rotated f s.regs.a s.regs.cf).1
        zf := decide (s.cfg.accRotateZ = .fromResult ∧ (rotated f s.regs.a s.regs.cf).1 = 0#8)
        nf := false
        hf := false
        cf := (rotated f s.regs.a s.regs.cf).2 }) ∧
      ∀ f x, Modifies (Instr.rot f x) s 2 x (fun v => (rotated f v s.regs.cf).1) fun v g => { g with
        zf := (rotated f v s.regs.cf).1 == 0#8
        nf := false
        hf := false
        cf := (rotated f v s.regs.cf).2 }

/-- BIT, RES and SET on a register and on the byte at HL (43_rotate_shift_bit.md R252 to R257). BIT b sets Z
when bit b of the operand is 0, N to 0 and Hf to 1, leaves Cf and writes nothing else; RES b clears and SET b
sets bit b of the operand, leave every other bit and every flag, and write back even an unchanged byte. A failed
access of HL faults with nothing changed. The spec marks parts of these rules as its own: general knowledge. -/
def Obligations.BitResult : Prop :=
  ∀ (s : State) (b : Fin 8) (x : Src8),
    (Operates (Instr.bit b x) s x fun v => { s.regs.past 2 with zf := !v.getLsbD b.val, nf := false, hf := true }) ∧
      Modifies (Instr.res b x) s 2 x (fun v => v &&& ~~~BitVec.twoPow 8 b.val) (fun _ g => g) ∧
      Modifies (Instr.set b x) s 2 x (fun v => v ||| BitVec.twoPow 8 b.val) (fun _ g => g)

/-- JP and JR, conditional and not (44_control.md R270 to R275, R281). JP nn, JP cc,nn, JP (HL), JR e and JR
cc,e set PC to nn, HL or the end address plus the sign-extended operand byte, when unconditional or when the
condition holds on the flags before the instruction (NZ, Z, NC, C on Z and Cf); else PC is the end address and
the cost is the one not taken. Any target is accepted. Nothing else changes but the cycle count and the PPU. The
spec marks parts of these rules as its own: general knowledge. -/
def Obligations.JumpResult : Prop :=
  ∀ s : State,
    (s.regs.cond .nz = !s.regs.zf ∧ s.regs.cond .z = s.regs.zf ∧ s.regs.cond .nc = !s.regs.cf ∧ s.regs.cond .c = s.regs.cf) ∧
      (∀ nn, Jumps (.jp_nn nn) s true 3 nn) ∧ (∀ cc nn, Jumps (Instr.jpCond cc nn) s (s.regs.cond cc) 3 nn) ∧
      Jumps .jp_HL s true 1 s.regs.hl ∧
      (∀ n : Byte, Jumps (.jr_e n.toInt) s true 2 (s.regs.pc + 2#16 + n.signExtend 16)) ∧
      ∀ cc, ∀ n : Byte, Jumps (Instr.jrCond cc n.toInt) s (s.regs.cond cc) 2 (s.regs.pc + 2#16 + n.signExtend 16)

/-- CALL, CALL cc and RST push the end address and jump (44_control.md R276, R277, R282). CALL nn, and CALL
cc,nn when its condition holds, push PC + 3 and set PC to nn; RST t pushes PC + 1 and sets PC to 8t. The push is
the two writes of R150, with their faults. CALL cc not taken moves on to PC + 3 at the other cost and touches no
stack byte. The spec marks parts of these rules as its own: decision D4; general knowledge. -/
def Obligations.CallResult : Prop :=
  ∀ s : State,
    (∀ nn, Pushes (.call_nn nn) s (s.regs.pc + 3#16) { s.regs with pc := nn }) ∧
      (∀ cc nn, (s.regs.cond cc = true → Pushes (Instr.callCond cc nn) s (s.regs.pc + 3#16) { s.regs with pc := nn }) ∧
        (s.regs.cond cc = false → exec (Instr.callCond cc nn) s =
          .next (s.doneWith (s.regs.past 3) (s.costNotTaken (Instr.callCond cc nn).opcode)))) ∧
      ∀ t : Fin 8, Pushes (Instr.rst t) s (s.regs.pc + 1#16) { s.regs with pc := BitVec.ofNat 16 (8 * t.val) }

/-- RET, RET cc and RETI pop PC (44_control.md R278 to R280). RET and RETI, and RET cc when its condition holds,
pop a word into PC with the two reads of R151 and their faults; RETI also sets ime at once and leaves the
pending toggle. RET cc not taken moves on to PC + 1 at the other cost and reads no stack byte. The spec marks
parts of these rules as its own: decision D28; general knowledge. -/
def Obligations.ReturnResult : Prop :=
  ∀ s : State,
    (Pops .ret s fun v => { s with regs := { s.regs with sp := s.regs.sp + 2#16, pc := v } }) ∧
      (Pops .reti s fun v => { s with regs := { s.regs with sp := s.regs.sp + 2#16, pc := v }, ime := true }) ∧
      ∀ cc, (s.regs.cond cc = true →
          Pops (Instr.retCond cc) s fun v => { s with regs := { s.regs with sp := s.regs.sp + 2#16, pc := v } }) ∧
        (s.regs.cond cc = false → exec (Instr.retCond cc) s =
          .next (s.doneWith (s.regs.past 1) (s.costNotTaken (Instr.retCond cc).opcode)))

/-- NOP, HALT, STOP, DI and EI (45_system.md R300, R302 to R305, 70_reset_and_hazards.md R402). NOP only moves
PC and charges its cost. HALT and STOP move PC past their one or two bytes, charge their cost and advance the
PPU, and then leave the status Halted. DI and EI put off the change of ime by setting the pending toggle to the
count 2 with the target false or true, replacing one that is pending; ime itself is unchanged. The spec marks
parts of these rules as its own: decisions D26, D27, D30, D31; general knowledge. -/
def Obligations.SystemResult : Prop :=
  ∀ s : State,
    Completes .nop s (s.regs.past 1) ∧
      exec .halt s = .next { s.doneWith (s.regs.past 1) (s.cost (.base 0x76#8)) with status := .halted } ∧
      (∀ n, exec (.stop n) s = .next { s.doneWith (s.regs.past 2) (s.cost (.base 0x10#8)) with status := .halted }) ∧
      exec .di s = .next (State.doneWith { s with imePend := some ⟨.two, false⟩ } (s.regs.past 1) (s.cost (.base 0xF3#8))) ∧
      exec .ei s = .next (State.doneWith { s with imePend := some ⟨.two, true⟩ } (s.regs.past 1) (s.cost (.base 0xFB#8)))

end Statements
end

