-- ==== Sys2Proof/Laws/Memory.lean ====
section
/-! SUPPORT. The laws of the byte store: read after write, the canonical form kept by a write, and the memory a
list of bytes gives. -/

namespace Sys2Proof.Machine.Memory

/-- Below the first address nothing is listed. -/
theorem read_of_wfFrom {lo : Nat} {m : Memory} (h : wfFrom lo m = true) {a : Nat} (ha : a < lo) :
    read m a = unlistedByte a := by
  induction m generalizing lo with
  | nil => rfl
  | cons c rest ih =>
    obtain ⟨k, v⟩ := c
    simp only [wfFrom, Bool.and_eq_true, decide_eq_true_eq] at h
    have hk : a ≠ k := by omega
    simp only [read, if_neg hk]
    exact ih h.2 (by omega)

theorem wfFrom_mono {lo lo' : Nat} {m : Memory} (h : wfFrom lo m = true) (hl : lo' ≤ lo) : wfFrom lo' m = true := by
  cases m with
  | nil => rfl
  | cons c rest =>
    obtain ⟨k, v⟩ := c
    simp only [wfFrom, Bool.and_eq_true, decide_eq_true_eq] at h ⊢
    exact ⟨⟨by omega, h.1.2⟩, h.2⟩

/-- A write keeps the canonical form. -/
theorem write_wfFrom {lo : Nat} {m : Memory} (h : wfFrom lo m = true) {a : Nat} (ha : lo ≤ a) (v : Byte) :
    wfFrom lo (write m a v) = true := by
  induction m generalizing lo with
  | nil =>
    simp only [write]
    split <;> simp_all [wfFrom]
  | cons c rest ih =>
    obtain ⟨k, w⟩ := c
    have h0 := h
    simp only [wfFrom, Bool.and_eq_true, decide_eq_true_eq] at h
    simp only [write]
    split
    · rename_i hlt
      split
      · exact h0
      · rename_i hv
        simp only [wfFrom, Bool.and_eq_true, decide_eq_true_eq]
        exact ⟨⟨ha, hv⟩, ⟨by omega, h.1.2⟩, h.2⟩
    · split
      · rename_i heq
        split
        · exact wfFrom_mono h.2 (by omega)
        · rename_i hv
          simp only [wfFrom, Bool.and_eq_true, decide_eq_true_eq]
          exact ⟨⟨ha, hv⟩, heq ▸ h.2⟩
      · simp only [wfFrom, Bool.and_eq_true, decide_eq_true_eq]
        exact ⟨h.1, ih h.2 (by omega)⟩

/-- A write keeps the canonical form of the whole memory. -/
theorem write_wf {m : Memory} (h : wf m = true) (a : Nat) (v : Byte) : wf (write m a v) = true :=
  write_wfFrom h (Nat.zero_le a) v

/-- A read after a write to the same address gives the byte written. -/
theorem read_write_same {lo : Nat} {m : Memory} (h : wfFrom lo m = true) (a : Nat) (v : Byte) :
    read (write m a v) a = v := by
  induction m generalizing lo with
  | nil =>
    simp only [write]
    split
    · simp_all [read]
    · simp [read]
  | cons c rest ih =>
    obtain ⟨k, w⟩ := c
    simp only [wfFrom, Bool.and_eq_true, decide_eq_true_eq] at h
    simp only [write]
    split
    · rename_i hlt
      split
      · rename_i hv
        have hne : a ≠ k := by omega
        simp only [read, if_neg hne, hv]
        exact read_of_wfFrom h.2 (by omega)
      · simp [read]
    · split
      · rename_i heq
        split
        · rename_i hv
          rw [hv]
          exact read_of_wfFrom h.2 (by omega)
        · simp [read]
      · rename_i hne
        simp only [read, if_neg hne]
        exact ih h.2

/-- A write leaves every other address alone. -/
theorem read_write_other (m : Memory) {a b : Nat} (hab : b ≠ a) (v : Byte) : read (write m a v) b = read m b := by
  induction m with
  | nil =>
    simp only [write]
    split
    · rfl
    · simp [read, hab]
  | cons c rest ih =>
    obtain ⟨k, w⟩ := c
    simp only [write]
    split
    · split
      · rfl
      · simp [read, hab]
    · split
      · rename_i heq
        split <;> simp [read, ← heq, hab]
      · simp only [read, ih]

/-- The addresses a write lists are the old ones and the one written. -/
theorem write_all {p : Nat → Bool} {m : Memory} (h : m.all (fun c => p c.1) = true) {a : Nat} (ha : p a = true)
    (v : Byte) : (write m a v).all (fun c => p c.1) = true := by
  induction m with
  | nil =>
    simp only [write]
    split <;> simp [ha]
  | cons c rest ih =>
    obtain ⟨k, w⟩ := c
    simp only [List.all_cons, Bool.and_eq_true] at h
    simp only [write]
    split
    · split <;> simp [ha, h.1, h.2]
    · split
      · split <;> simp [ha, h.2]
      · simp only [List.all_cons, Bool.and_eq_true]
        exact ⟨h.1, ih h.2⟩

end Sys2Proof.Machine.Memory
end

