-- ==== Sys2Proof/Laws/State.lean ====
section
/-! SUPPORT. What each update of the state does to each field: one lemma per field per update, so that no
proof unfolds a record update. -/

namespace Sys2Proof.Machine

@[simp] theorem State.mapRegs_regs (s : State) (f : RegFile → RegFile) : (s.mapRegs f).regs = f s.regs := rfl
@[simp] theorem State.mapRegs_ime (s : State) (f : RegFile → RegFile) : (s.mapRegs f).ime = s.ime := rfl
@[simp] theorem State.mapRegs_imePend (s : State) (f : RegFile → RegFile) : (s.mapRegs f).imePend = s.imePend := rfl
@[simp] theorem State.mapRegs_cyclesTotal (s : State) (f : RegFile → RegFile) : (s.mapRegs f).cyclesTotal = s.cyclesTotal := rfl
@[simp] theorem State.mapRegs_bootLatch (s : State) (f : RegFile → RegFile) : (s.mapRegs f).bootLatch = s.bootLatch := rfl
@[simp] theorem State.mapRegs_mem (s : State) (f : RegFile → RegFile) : (s.mapRegs f).mem = s.mem := rfl
@[simp] theorem State.mapRegs_ppu (s : State) (f : RegFile → RegFile) : (s.mapRegs f).ppu = s.ppu := rfl
@[simp] theorem State.mapRegs_status (s : State) (f : RegFile → RegFile) : (s.mapRegs f).status = s.status := rfl
@[simp] theorem State.mapRegs_cfg (s : State) (f : RegFile → RegFile) : (s.mapRegs f).cfg = s.cfg := rfl

@[simp] theorem State.set8_regs (s : State) (r : Reg8) (v : Byte) : (s.set8 r v).regs = s.regs.set8 r v := rfl
@[simp] theorem State.set8_ime (s : State) (r : Reg8) (v : Byte) : (s.set8 r v).ime = s.ime := rfl
@[simp] theorem State.set8_imePend (s : State) (r : Reg8) (v : Byte) : (s.set8 r v).imePend = s.imePend := rfl
@[simp] theorem State.set8_cyclesTotal (s : State) (r : Reg8) (v : Byte) : (s.set8 r v).cyclesTotal = s.cyclesTotal := rfl
@[simp] theorem State.set8_bootLatch (s : State) (r : Reg8) (v : Byte) : (s.set8 r v).bootLatch = s.bootLatch := rfl
@[simp] theorem State.set8_mem (s : State) (r : Reg8) (v : Byte) : (s.set8 r v).mem = s.mem := rfl
@[simp] theorem State.set8_ppu (s : State) (r : Reg8) (v : Byte) : (s.set8 r v).ppu = s.ppu := rfl
@[simp] theorem State.set8_status (s : State) (r : Reg8) (v : Byte) : (s.set8 r v).status = s.status := rfl
@[simp] theorem State.set8_cfg (s : State) (r : Reg8) (v : Byte) : (s.set8 r v).cfg = s.cfg := rfl

@[simp] theorem State.set16_regs (s : State) (r : Reg16) (v : Word) : (s.set16 r v).regs = s.regs.set16 r v := rfl
@[simp] theorem State.set16_ime (s : State) (r : Reg16) (v : Word) : (s.set16 r v).ime = s.ime := rfl
@[simp] theorem State.set16_imePend (s : State) (r : Reg16) (v : Word) : (s.set16 r v).imePend = s.imePend := rfl
@[simp] theorem State.set16_cyclesTotal (s : State) (r : Reg16) (v : Word) : (s.set16 r v).cyclesTotal = s.cyclesTotal := rfl
@[simp] theorem State.set16_bootLatch (s : State) (r : Reg16) (v : Word) : (s.set16 r v).bootLatch = s.bootLatch := rfl
@[simp] theorem State.set16_mem (s : State) (r : Reg16) (v : Word) : (s.set16 r v).mem = s.mem := rfl
@[simp] theorem State.set16_ppu (s : State) (r : Reg16) (v : Word) : (s.set16 r v).ppu = s.ppu := rfl
@[simp] theorem State.set16_status (s : State) (r : Reg16) (v : Word) : (s.set16 r v).status = s.status := rfl
@[simp] theorem State.set16_cfg (s : State) (r : Reg16) (v : Word) : (s.set16 r v).cfg = s.cfg := rfl

@[simp] theorem State.setStack_regs (s : State) (q : StackReg) (v : Word) : (s.setStack q v).regs = s.regs.setStack q v := rfl
@[simp] theorem State.setStack_ime (s : State) (q : StackReg) (v : Word) : (s.setStack q v).ime = s.ime := rfl
@[simp] theorem State.setStack_imePend (s : State) (q : StackReg) (v : Word) : (s.setStack q v).imePend = s.imePend := rfl
@[simp] theorem State.setStack_cyclesTotal (s : State) (q : StackReg) (v : Word) : (s.setStack q v).cyclesTotal = s.cyclesTotal := rfl
@[simp] theorem State.setStack_bootLatch (s : State) (q : StackReg) (v : Word) : (s.setStack q v).bootLatch = s.bootLatch := rfl
@[simp] theorem State.setStack_mem (s : State) (q : StackReg) (v : Word) : (s.setStack q v).mem = s.mem := rfl
@[simp] theorem State.setStack_ppu (s : State) (q : StackReg) (v : Word) : (s.setStack q v).ppu = s.ppu := rfl
@[simp] theorem State.setStack_status (s : State) (q : StackReg) (v : Word) : (s.setStack q v).status = s.status := rfl
@[simp] theorem State.setStack_cfg (s : State) (q : StackReg) (v : Word) : (s.setStack q v).cfg = s.cfg := rfl

@[simp] theorem State.setFlags_regs (s : State) (z n h c : Bool) : (s.setFlags z n h c).regs = s.regs.setFlags z n h c := rfl
@[simp] theorem State.setFlags_ime (s : State) (z n h c : Bool) : (s.setFlags z n h c).ime = s.ime := rfl
@[simp] theorem State.setFlags_imePend (s : State) (z n h c : Bool) : (s.setFlags z n h c).imePend = s.imePend := rfl
@[simp] theorem State.setFlags_cyclesTotal (s : State) (z n h c : Bool) : (s.setFlags z n h c).cyclesTotal = s.cyclesTotal := rfl
@[simp] theorem State.setFlags_bootLatch (s : State) (z n h c : Bool) : (s.setFlags z n h c).bootLatch = s.bootLatch := rfl
@[simp] theorem State.setFlags_mem (s : State) (z n h c : Bool) : (s.setFlags z n h c).mem = s.mem := rfl
@[simp] theorem State.setFlags_ppu (s : State) (z n h c : Bool) : (s.setFlags z n h c).ppu = s.ppu := rfl
@[simp] theorem State.setFlags_status (s : State) (z n h c : Bool) : (s.setFlags z n h c).status = s.status := rfl
@[simp] theorem State.setFlags_cfg (s : State) (z n h c : Bool) : (s.setFlags z n h c).cfg = s.cfg := rfl

@[simp] theorem State.setPc_regs (s : State) (v : Word) : (s.setPc v).regs = { s.regs with pc := v } := rfl
@[simp] theorem State.setPc_ime (s : State) (v : Word) : (s.setPc v).ime = s.ime := rfl
@[simp] theorem State.setPc_imePend (s : State) (v : Word) : (s.setPc v).imePend = s.imePend := rfl
@[simp] theorem State.setPc_cyclesTotal (s : State) (v : Word) : (s.setPc v).cyclesTotal = s.cyclesTotal := rfl
@[simp] theorem State.setPc_bootLatch (s : State) (v : Word) : (s.setPc v).bootLatch = s.bootLatch := rfl
@[simp] theorem State.setPc_mem (s : State) (v : Word) : (s.setPc v).mem = s.mem := rfl
@[simp] theorem State.setPc_ppu (s : State) (v : Word) : (s.setPc v).ppu = s.ppu := rfl
@[simp] theorem State.setPc_status (s : State) (v : Word) : (s.setPc v).status = s.status := rfl
@[simp] theorem State.setPc_cfg (s : State) (v : Word) : (s.setPc v).cfg = s.cfg := rfl

@[simp] theorem State.setSp_regs (s : State) (v : Word) : (s.setSp v).regs = { s.regs with sp := v } := rfl
@[simp] theorem State.setSp_ime (s : State) (v : Word) : (s.setSp v).ime = s.ime := rfl
@[simp] theorem State.setSp_imePend (s : State) (v : Word) : (s.setSp v).imePend = s.imePend := rfl
@[simp] theorem State.setSp_cyclesTotal (s : State) (v : Word) : (s.setSp v).cyclesTotal = s.cyclesTotal := rfl
@[simp] theorem State.setSp_bootLatch (s : State) (v : Word) : (s.setSp v).bootLatch = s.bootLatch := rfl
@[simp] theorem State.setSp_mem (s : State) (v : Word) : (s.setSp v).mem = s.mem := rfl
@[simp] theorem State.setSp_ppu (s : State) (v : Word) : (s.setSp v).ppu = s.ppu := rfl
@[simp] theorem State.setSp_status (s : State) (v : Word) : (s.setSp v).status = s.status := rfl
@[simp] theorem State.setSp_cfg (s : State) (v : Word) : (s.setSp v).cfg = s.cfg := rfl

@[simp] theorem State.skip_regs (s : State) (n : Nat) : (s.skip n).regs = { s.regs with pc := s.regs.pc + BitVec.ofNat 16 n } := rfl
@[simp] theorem State.skip_ime (s : State) (n : Nat) : (s.skip n).ime = s.ime := rfl
@[simp] theorem State.skip_imePend (s : State) (n : Nat) : (s.skip n).imePend = s.imePend := rfl
@[simp] theorem State.skip_cyclesTotal (s : State) (n : Nat) : (s.skip n).cyclesTotal = s.cyclesTotal := rfl
@[simp] theorem State.skip_bootLatch (s : State) (n : Nat) : (s.skip n).bootLatch = s.bootLatch := rfl
@[simp] theorem State.skip_mem (s : State) (n : Nat) : (s.skip n).mem = s.mem := rfl
@[simp] theorem State.skip_ppu (s : State) (n : Nat) : (s.skip n).ppu = s.ppu := rfl
@[simp] theorem State.skip_status (s : State) (n : Nat) : (s.skip n).status = s.status := rfl
@[simp] theorem State.skip_cfg (s : State) (n : Nat) : (s.skip n).cfg = s.cfg := rfl

@[simp] theorem State.charge_regs (s : State) (c : Nat) : (s.charge c).regs = s.regs := rfl
@[simp] theorem State.charge_ime (s : State) (c : Nat) : (s.charge c).ime = s.ime := rfl
@[simp] theorem State.charge_imePend (s : State) (c : Nat) : (s.charge c).imePend = s.imePend := rfl
@[simp] theorem State.charge_cyclesTotal (s : State) (c : Nat) : (s.charge c).cyclesTotal = s.cyclesTotal + c := rfl
@[simp] theorem State.charge_bootLatch (s : State) (c : Nat) : (s.charge c).bootLatch = s.bootLatch := rfl
@[simp] theorem State.charge_mem (s : State) (c : Nat) : (s.charge c).mem = s.mem := rfl
@[simp] theorem State.charge_ppu (s : State) (c : Nat) : (s.charge c).ppu = s.ppu := rfl
@[simp] theorem State.charge_status (s : State) (c : Nat) : (s.charge c).status = s.status := rfl
@[simp] theorem State.charge_cfg (s : State) (c : Nat) : (s.charge c).cfg = s.cfg := rfl

@[simp] theorem State.advancePpu_regs (s : State) (c : Nat) : (s.advancePpu c).regs = s.regs := rfl
@[simp] theorem State.advancePpu_ime (s : State) (c : Nat) : (s.advancePpu c).ime = s.ime := rfl
@[simp] theorem State.advancePpu_imePend (s : State) (c : Nat) : (s.advancePpu c).imePend = s.imePend := rfl
@[simp] theorem State.advancePpu_cyclesTotal (s : State) (c : Nat) : (s.advancePpu c).cyclesTotal = s.cyclesTotal := rfl
@[simp] theorem State.advancePpu_bootLatch (s : State) (c : Nat) : (s.advancePpu c).bootLatch = s.bootLatch := rfl
@[simp] theorem State.advancePpu_mem (s : State) (c : Nat) : (s.advancePpu c).mem = s.mem := rfl
@[simp] theorem State.advancePpu_ppu (s : State) (c : Nat) : (s.advancePpu c).ppu = s.ppu.advance s.cfg.shades s.mem c := rfl
@[simp] theorem State.advancePpu_status (s : State) (c : Nat) : (s.advancePpu c).status = s.status := rfl
@[simp] theorem State.advancePpu_cfg (s : State) (c : Nat) : (s.advancePpu c).cfg = s.cfg := rfl

@[simp] theorem State.retire_regs (s : State) (c : Nat) : (s.retire c).regs = s.regs := rfl
@[simp] theorem State.retire_ime (s : State) (c : Nat) : (s.retire c).ime = s.ime := rfl
@[simp] theorem State.retire_imePend (s : State) (c : Nat) : (s.retire c).imePend = s.imePend := rfl
@[simp] theorem State.retire_cyclesTotal (s : State) (c : Nat) : (s.retire c).cyclesTotal = s.cyclesTotal + c := rfl
@[simp] theorem State.retire_bootLatch (s : State) (c : Nat) : (s.retire c).bootLatch = s.bootLatch := rfl
@[simp] theorem State.retire_mem (s : State) (c : Nat) : (s.retire c).mem = s.mem := rfl
@[simp] theorem State.retire_ppu (s : State) (c : Nat) : (s.retire c).ppu = s.ppu.advance s.cfg.shades s.mem c := rfl
@[simp] theorem State.retire_status (s : State) (c : Nat) : (s.retire c).status = s.status := rfl
@[simp] theorem State.retire_cfg (s : State) (c : Nat) : (s.retire c).cfg = s.cfg := rfl

@[simp] theorem State.setMemByte_regs (s : State) (a : Word) (v : Byte) : (s.setMemByte a v).regs = s.regs := rfl
@[simp] theorem State.setMemByte_ime (s : State) (a : Word) (v : Byte) : (s.setMemByte a v).ime = s.ime := rfl
@[simp] theorem State.setMemByte_imePend (s : State) (a : Word) (v : Byte) : (s.setMemByte a v).imePend = s.imePend := rfl
@[simp] theorem State.setMemByte_cyclesTotal (s : State) (a : Word) (v : Byte) : (s.setMemByte a v).cyclesTotal = s.cyclesTotal := rfl
@[simp] theorem State.setMemByte_bootLatch (s : State) (a : Word) (v : Byte) : (s.setMemByte a v).bootLatch = s.bootLatch := rfl
@[simp] theorem State.setMemByte_mem (s : State) (a : Word) (v : Byte) : (s.setMemByte a v).mem = Memory.write s.mem a.toNat v := rfl
@[simp] theorem State.setMemByte_ppu (s : State) (a : Word) (v : Byte) : (s.setMemByte a v).ppu = s.ppu := rfl
@[simp] theorem State.setMemByte_status (s : State) (a : Word) (v : Byte) : (s.setMemByte a v).status = s.status := rfl
@[simp] theorem State.setMemByte_cfg (s : State) (a : Word) (v : Byte) : (s.setMemByte a v).cfg = s.cfg := rfl

@[simp] theorem State.raise_regs (s : State) (now : State) (f : Fault) : (s.raise now f).regs = s.regs := rfl
@[simp] theorem State.raise_ime (s : State) (now : State) (f : Fault) : (s.raise now f).ime = s.ime := rfl
@[simp] theorem State.raise_imePend (s : State) (now : State) (f : Fault) : (s.raise now f).imePend = s.imePend := rfl
@[simp] theorem State.raise_cyclesTotal (s : State) (now : State) (f : Fault) : (s.raise now f).cyclesTotal = now.cyclesTotal := rfl
@[simp] theorem State.raise_bootLatch (s : State) (now : State) (f : Fault) : (s.raise now f).bootLatch = now.bootLatch := rfl
@[simp] theorem State.raise_mem (s : State) (now : State) (f : Fault) : (s.raise now f).mem = now.mem := rfl
@[simp] theorem State.raise_ppu (s : State) (now : State) (f : Fault) : (s.raise now f).ppu = now.ppu := rfl
@[simp] theorem State.raise_status (s : State) (now : State) (f : Fault) : (s.raise now f).status = .faulted ⟨f, s.regs⟩ := rfl
@[simp] theorem State.raise_cfg (s : State) (now : State) (f : Fault) : (s.raise now f).cfg = now.cfg := rfl

end Sys2Proof.Machine
end

