-- ==== Sys2Proof/Laws/Ppu.lean ====
section
/-! SUPPORT. The laws of `ppu_advance`: what it leaves alone, its loop as a recursion on the cycles, and the form of
the PPU it keeps. -/

namespace Sys2Proof.Machine

variable {shades : ShadeColors} {mem : Memory}

theorem Mode.duration_pos (m : Mode) : 1 ≤ m.duration := by cases m <;> decide

@[simp] theorem leaveMode_lcdc (p : Ppu) : (p.leaveMode shades mem).lcdc = p.lcdc := by
  cases h : p.mode <;> simp [Ppu.leaveMode, Ppu.exitAction, Ppu.renderLine, h]
@[simp] theorem leaveMode_scy (p : Ppu) : (p.leaveMode shades mem).scy = p.scy := by
  cases h : p.mode <;> simp [Ppu.leaveMode, Ppu.exitAction, Ppu.renderLine, h]
@[simp] theorem leaveMode_bgp (p : Ppu) : (p.leaveMode shades mem).bgp = p.bgp := by
  cases h : p.mode <;> simp [Ppu.leaveMode, Ppu.exitAction, Ppu.renderLine, h]

theorem leaveMode_countdown (p : Ppu) :
    (p.leaveMode shades mem).countdown = (p.leaveMode shades mem).mode.duration := rfl

/-- Leaving a mode does not look at the countdown. -/
theorem leaveMode_of_countdown (p : Ppu) (n : Nat) :
    Ppu.leaveMode shades mem { p with countdown := n } = p.leaveMode shades mem := by
  obtain ⟨_, _, _, m, _, _, _, _⟩ := p
  cases m <;> rfl

/-- A relation that every loop turn and every countdown keeps holds after the loop. -/
theorem advanceLoop_rel {R : Ppu → Ppu → Prop} (refl : ∀ p, R p p) (trans : ∀ p q r, R p q → R q r → R p r)
    (count : ∀ p c, c < p.countdown → R p { p with countdown := p.countdown - c })
    (leave : ∀ p, R p (p.leaveMode shades mem)) (n c : Nat) (p : Ppu) : R p (Ppu.advanceLoop shades mem n c p) := by
  induction n generalizing c p with
  | zero => exact refl p
  | succ n ih =>
    simp only [Ppu.advanceLoop]
    split
    · exact refl p
    · split
      · exact count p c ‹_›
      · exact trans _ _ _ (leave p) (ih _ _)

/-- The registers of the display are no business of the advance (R334). -/
theorem advance_registers (c : Nat) (p : Ppu) :
    (p.advance shades mem c).lcdc = p.lcdc ∧ (p.advance shades mem c).scy = p.scy ∧
      (p.advance shades mem c).bgp = p.bgp := by
  have h := advanceLoop_rel (shades := shades) (mem := mem) (R := fun p q => q.lcdc = p.lcdc ∧ q.scy = p.scy ∧ q.bgp = p.bgp)
    (by simp) (by intro p q r h1 h2; exact ⟨h2.1.trans h1.1, h2.2.1.trans h1.2.1, h2.2.2.trans h1.2.2⟩) (by simp) (by simp)
    (c + 1) c p
  unfold Ppu.advance
  split
  · unfold Ppu.syncLy
    split <;> exact h
  · simp

/-- Frames are only appended (R346). -/
theorem advance_framesOut (c : Nat) (p : Ppu) : p.framesOut <+: (p.advance shades mem c).framesOut := by
  have h := advanceLoop_rel (shades := shades) (mem := mem) (R := fun p q => p.framesOut <+: q.framesOut)
    (fun p => List.prefix_rfl) (fun p q r h1 h2 => h1.trans h2) (fun p c _ => List.prefix_rfl)
    (fun p => by
      cases hm : p.mode <;> simp [Ppu.leaveMode, Ppu.exitAction, Ppu.renderLine, hm])
    (c + 1) c p
  unfold Ppu.advance
  split
  · unfold Ppu.syncLy
    split <;> exact h
  · exact List.prefix_rfl

/-! ## The loop by cycles -/

/-- Turns to spare change nothing. -/
theorem advanceLoop_fuel {n m c : Nat} {p : Ppu} (hp : 1 ≤ p.countdown) (hn : c < n) (hm : c < m) :
    Ppu.advanceLoop shades mem n c p = Ppu.advanceLoop shades mem m c p := by
  induction n generalizing m c p with
  | zero => omega
  | succ n ih =>
    cases m with
    | zero => omega
    | succ m =>
      simp only [Ppu.advanceLoop]
      split
      · rfl
      · split
        · rfl
        · refine ih ?_ (by omega) (by omega)
          rw [leaveMode_countdown]
          exact Mode.duration_pos _

/-- The loop with turns to spare. -/
def Ppu.run (shades : ShadeColors) (mem : Memory) (c : Nat) (p : Ppu) : Ppu := Ppu.advanceLoop shades mem (c + 1) c p

theorem advance_eq_run {c : Nat} {p : Ppu} (h : p.enabled = true) :
    p.advance shades mem c = (Ppu.run shades mem c p).syncLy := by simp [Ppu.advance, Ppu.run, h]

@[simp] theorem run_zero (p : Ppu) : Ppu.run shades mem 0 p = p := rfl

theorem run_lt {c : Nat} {p : Ppu} (h : c < p.countdown) :
    Ppu.run shades mem c p = { p with countdown := p.countdown - c } := by
  unfold Ppu.run
  simp only [Ppu.advanceLoop]
  split
  · subst_vars; rfl
  · rfl

theorem run_ge {c : Nat} {p : Ppu} (hp : 1 ≤ p.countdown) (h : p.countdown ≤ c) :
    Ppu.run shades mem c p = Ppu.run shades mem (c - p.countdown) (p.leaveMode shades mem) := by
  unfold Ppu.run
  rw [Ppu.advanceLoop, if_neg (by omega), if_neg (by omega)]
  refine advanceLoop_fuel ?_ (by omega) (by omega)
  rw [leaveMode_countdown]
  exact Mode.duration_pos _

theorem run_countdown_pos {c : Nat} {p : Ppu} (hp : 1 ≤ p.countdown) : 1 ≤ (Ppu.run shades mem c p).countdown := by
  induction c using Nat.strongRecOn generalizing p with
  | _ c ih =>
    by_cases h : c < p.countdown
    · rw [run_lt h]; simp; omega
    · rw [run_ge hp (by omega)]
      exact ih _ (by omega) (by rw [leaveMode_countdown]; exact Mode.duration_pos _)

/-- Running `a` cycles and then `b` is running `a + b` (R325). -/
theorem run_add {a b : Nat} {p : Ppu} (hp : 1 ≤ p.countdown) :
    Ppu.run shades mem b (Ppu.run shades mem a p) = Ppu.run shades mem (a + b) p := by
  induction a using Nat.strongRecOn generalizing p with
  | _ a ih =>
    by_cases h : a < p.countdown
    · rw [run_lt h]
      by_cases h' : a + b < p.countdown
      · rw [run_lt h', run_lt (by simp; omega)]
        simp [Nat.sub_add_eq]
      · rw [run_ge (p := p) hp (by omega), run_ge (by simp; omega) (by simp; omega)]
        simp only
        rw [show b - (p.countdown - a) = a + b - p.countdown by omega, leaveMode_of_countdown]
    · rw [run_ge hp (by omega), run_ge (c := a + b) hp (by omega), ih _ (by omega)
        (by rw [leaveMode_countdown]; exact Mode.duration_pos _)]
      rw [show a - p.countdown + b = a + b - p.countdown by omega]

/-! ## The exits of the modes (R330 to R333) -/

theorem leaveMode_oam {p : Ppu} (hm : p.mode = .oam) :
    p.leaveMode shades mem = { p with mode := .transfer, countdown := 175 } := by
  simp [Ppu.leaveMode, Ppu.exitAction, hm, Mode.next, Mode.duration]

theorem leaveMode_transfer {p : Ppu} (hm : p.mode = .transfer) :
    p.leaveMode shades mem =
      { p with mode := .hblank, countdown := 207, fb := p.fb.set p.ly.toNat (scanline shades mem p.scy p.bgp p.ly) } := by
  simp [Ppu.leaveMode, Ppu.exitAction, Ppu.renderLine, hm, Mode.next, Mode.duration]

theorem leaveMode_hblank_visible {p : Ppu} (hm : p.mode = .hblank) (h : (p.ly + 1#8).toNat < 144) :
    p.leaveMode shades mem = { p with mode := .oam, countdown := 83, ly := p.ly + 1#8 } := by
  obtain ⟨_, _, _, m, _, ly, _, _⟩ := p
  cases hm
  have e : Mode.next .hblank (ly + 1#8) = .oam := if_pos h
  simp only [Ppu.leaveMode, Ppu.exitAction]
  rw [e]; rfl

theorem leaveMode_hblank_last {p : Ppu} (hm : p.mode = .hblank) (h : ¬(p.ly + 1#8).toNat < 144) :
    p.leaveMode shades mem = { p with mode := .vblank, countdown := 4560, ly := p.ly + 1#8 } := by
  obtain ⟨_, _, _, m, _, ly, _, _⟩ := p
  cases hm
  have e : Mode.next .hblank (ly + 1#8) = .vblank := if_neg h
  simp only [Ppu.leaveMode, Ppu.exitAction]
  rw [e]; rfl

theorem leaveMode_vblank {p : Ppu} (hm : p.mode = .vblank) :
    p.leaveMode shades mem =
      { p with mode := .oam, countdown := 83, ly := 0#8, framesOut := p.framesOut ++ [p.fb] } := by
  simp [Ppu.leaveMode, Ppu.exitAction, hm, Mode.next, Mode.duration]

theorem run_lcdc (c : Nat) (p : Ppu) : (Ppu.run shades mem c p).lcdc = p.lcdc :=
  advanceLoop_rel (shades := shades) (mem := mem) (R := fun p q => q.lcdc = p.lcdc) (fun _ => rfl)
    (fun _ _ _ h1 h2 => h2.trans h1) (fun _ _ _ => rfl) (fun p => leaveMode_lcdc p) _ _ _

/-- What LY holds in VBlank does not matter to the rest of the run: it follows the countdown (R327). -/
theorem run_syncLy {c : Nat} {p : Ppu} (hp : 1 ≤ p.countdown) :
    (Ppu.run shades mem c p.syncLy).syncLy = (Ppu.run shades mem c p).syncLy := by
  cases hm : p.mode
  case vblank =>
    have hs : p.syncLy = { p with ly := vblankLy p.countdown } := by simp [Ppu.syncLy, hm]
    rw [hs]
    by_cases h : c < p.countdown
    · rw [run_lt h, run_lt (p := { p with ly := vblankLy p.countdown }) h]
      simp [Ppu.syncLy, hm]
    · rw [run_ge hp (Nat.le_of_not_lt h), run_ge (p := { p with ly := vblankLy p.countdown }) hp (Nat.le_of_not_lt h),
        leaveMode_vblank hm, leaveMode_vblank (p := { p with ly := vblankLy p.countdown }) hm]
  all_goals
    have hs : p.syncLy = p := by simp [Ppu.syncLy, hm]
    rw [hs]

/-! ## The form of the PPU -/

theorem scanline_length (scy bgp l : Byte) : (scanline shades mem scy bgp l).length = 160 := by simp [scanline]

theorem shaped_set {f : Frame} (h : Frame.shaped f = true) (y : Nat) (row : List Color) (hr : row.length = 160) :
    Frame.shaped (f.set y row) = true := by
  simp only [Frame.shaped, Bool.and_eq_true, beq_iff_eq, List.all_eq_true] at h ⊢
  refine ⟨by simpa using h.1, fun r hm => ?_⟩
  rcases List.mem_or_eq_of_mem_set hm with hm | rfl
  · exact h.2 r hm
  · exact hr

/-- The form the PPU has inside the loop: as `Ppu.wf`, without the value LY takes in VBlank. -/
structure Ppu.LoopOk (p : Ppu) : Prop where
  pos : 1 ≤ p.countdown
  le : p.countdown ≤ p.mode.duration
  ly : p.mode ≠ .vblank → p.ly.toNat < 144
  fb : Frame.shaped p.fb = true
  frames : p.framesOut.all Frame.shaped = true

theorem loopOk_leaveMode {p : Ppu} (h : p.LoopOk) : (p.leaveMode shades mem).LoopOk := by
  have hpos : 1 ≤ (p.leaveMode shades mem).countdown := by rw [leaveMode_countdown]; exact Mode.duration_pos _
  have hle : (p.leaveMode shades mem).countdown ≤ (p.leaveMode shades mem).mode.duration := le_of_eq (leaveMode_countdown p)
  obtain ⟨-, -, hly, hfb, hfr⟩ := h
  refine ⟨hpos, hle, ?_, ?_, ?_⟩ <;> cases hm : p.mode <;>
    simp only [Ppu.leaveMode, Ppu.exitAction, Ppu.renderLine, Mode.next, hm, List.all_append, hfr, hfb, Bool.and_true,
      List.all_cons, List.all_nil]
  · intro _; exact hly (by simp [hm])
  · intro _; exact hly (by simp [hm])
  · split
    · intro _; assumption
    · simp
  · simp
  · exact shaped_set hfb _ _ (scanline_length _ _ _)

theorem loopOk_run {c : Nat} {p : Ppu} (h : p.LoopOk) : (Ppu.run shades mem c p).LoopOk := by
  refine advanceLoop_rel (shades := shades) (mem := mem) (R := fun p q => p.LoopOk → q.LoopOk) (fun _ h => h)
    (fun _ _ _ h1 h2 h => h2 (h1 h)) (fun p c hc h => ?_) (fun p h => loopOk_leaveMode h) (c + 1) c p h
  exact ⟨by simp; omega, by have := h.le; simp; omega, h.ly, h.fb, h.frames⟩

theorem loopOk_of_wf {p : Ppu} (h : p.wf = true) : p.LoopOk := by
  simp only [Ppu.wf, Bool.and_eq_true, decide_eq_true_eq] at h
  refine ⟨h.1.1.1.1, h.1.1.1.2, ?_, h.1.2, h.2⟩
  have := h.1.1.2
  cases hm : p.mode <;> simp_all

/-- The advance keeps the form of the PPU (R323, R326, R327). -/
theorem advance_wf {c : Nat} {p : Ppu} (h : p.wf = true) : (p.advance shades mem c).wf = true := by
  by_cases he : p.enabled = true
  · rw [advance_eq_run he]
    obtain ⟨h1, h2, h3, h4, h5⟩ := loopOk_run (shades := shades) (mem := mem) (c := c) (loopOk_of_wf h)
    generalize Ppu.run shades mem c p = q at *
    cases hm : q.mode <;> simp [Ppu.wf, Ppu.syncLy, hm] at h2 h3 ⊢ <;> simp_all
  · simpa [Ppu.advance, he] using h

end Sys2Proof.Machine
end

