-- ==== Sys2Proof/Laws/Boot.lean ====
section
/-! SUPPORT. The load and the reset: the memories and the frame buffer they build. -/

namespace Sys2Proof.Machine

/-- The memory of the reset state is canonical. -/
theorem reset_memory_wf : Memory.wf State.reset.mem = true := rfl

/-- The initial frame buffer has its shape (R342). -/
theorem shaped_frameOf (px : List Color) : Frame.shaped (frameOf px) = true := by
  simp [Frame.shaped, frameOf]

theorem frameOf_nil : frameOf [] = List.replicate 144 (List.replicate 160 0#32) := by
  simp only [frameOf, List.getD, List.getElem?_nil, Option.getD_none, List.map_const', List.length_range]

/-- A list of bytes at addresses the store backs, written in turn, keeps the memory in its form. -/
theorem foldl_write_memOk (l : List Host.Cell) (hl : ∀ c ∈ l, ramAddr c.1 = true) (m : Memory) (hm : memOk m = true) :
    memOk (l.foldl (fun m c => Memory.write m c.1 c.2) m) = true := by
  induction l generalizing m with
  | nil => exact hm
  | cons c cs ih =>
    refine ih (fun c hc => hl c (by simp [hc])) _ ?_
    simp only [memOk, Bool.and_eq_true] at hm ⊢
    exact ⟨Memory.write_wf hm.1 _ _, Memory.write_all (p := ramAddr) hm.2 (hl c (by simp)) _⟩

/-- The memory that `INIT_RAM` gives is in its form. -/
theorem memOk_initMemory (l : List Host.Cell) : memOk (initMemory l) = true := by
  refine foldl_write_memOk _ (fun c hc => ?_) [] rfl
  simpa using (List.mem_filter.mp hc).2

/-- A list of bytes written in turn leaves every address it does not name alone. -/
theorem foldl_write_read (l : List Host.Cell) (m : Memory) (hm : Memory.wf m = true) :
    Memory.wf (l.foldl (fun m c => Memory.write m c.1 c.2) m) = true ∧
      ∀ a, (∀ w, (a, w) ∉ l) → Memory.read (l.foldl (fun m c => Memory.write m c.1 c.2) m) a = Memory.read m a := by
  induction l generalizing m with
  | nil => exact ⟨hm, fun _ _ => rfl⟩
  | cons c cs ih =>
    obtain ⟨k, v⟩ := c
    obtain ⟨h1, h2⟩ := ih (Memory.write m k v) (Memory.write_wf hm _ _)
    refine ⟨h1, fun a ha => ?_⟩
    rw [List.foldl_cons, h2 a fun w hw => ha w (by simp [hw])]
    refine Memory.read_write_other _ ?_ _
    rintro rfl
    exact ha v (by simp)

/-- A load that succeeds answers the reset state of its image (R390). -/
theorem load_ok {inp : LoadInput} {s : State} (h : load inp = .ok s) : ∃ rom, inp.rom = some rom ∧ s = resetState inp rom := by
  unfold load at h
  split at h
  · cases h
  · split at h
    · cases h
    · simp only [mapperOf] at h
      split at h
      · cases h
      · cases h; exact ⟨_, by assumption, rfl⟩

end Sys2Proof.Machine
end

