-- ==== Sys2Proof/Laws/Bus.lean ====
section
/-! SUPPORT. What the bus can do: a read depends on four fields, a write changes at most the store, the boot latch
and three display registers, and each fails only where the decoder says so. -/

namespace Sys2Proof.Machine

/-- A read sees the latch, the configuration, the store and the PPU, and nothing else. -/
theorem busRead_congr {s t : State} (hl : t.bootLatch = s.bootLatch) (hc : t.cfg = s.cfg) (hm : t.mem = s.mem)
    (hp : t.ppu = s.ppu) (a : Word) : t.busRead a = s.busRead a := by
  simp only [State.busRead, State.ioRead, State.memByte, hl, hc, hm, hp]

@[simp] theorem busRead_mapRegs (s : State) (f : RegFile → RegFile) (a : Word) : (s.mapRegs f).busRead a = s.busRead a := rfl
@[simp] theorem busRead_skip (s : State) (n : Nat) (a : Word) : (s.skip n).busRead a = s.busRead a := rfl

/-- What a successful write of `v` at `a` may have changed. -/
structure Written (s : State) (a : Word) (v : Byte) (t : State) : Prop where
  regs : t.regs = s.regs
  ime : t.ime = s.ime
  imePend : t.imePend = s.imePend
  cyclesTotal : t.cyclesTotal = s.cyclesTotal
  status : t.status = s.status
  cfg : t.cfg = s.cfg
  mem : t.mem = s.mem ∨ (ramAddr a.toNat = true ∧ t.mem = Memory.write s.mem a.toNat v)
  latch : (t.bootLatch = s.bootLatch ∧ a ≠ 0xFF50#16) ∨ (t.bootLatch = false ∧ a = 0xFF50#16)
  ppu : t.ppu = { s.ppu with
    lcdc := if a = 0xFF40#16 then v else s.ppu.lcdc
    scy := if a = 0xFF42#16 then v else s.ppu.scy
    bgp := if a = 0xFF47#16 then v else s.ppu.bgp }

/-- The rows of the decoder with the addresses each one answers. -/
theorem regionOf_bounds (b : Bool) (a : Word) :
    match regionOf b a with
    | .boot => a.toNat < 0x100 ∧ b = true
    | .cart => a.toNat < 0x4000
    | .vram => 0x8000 ≤ a.toNat ∧ a.toNat < 0xA000
    | .wram => 0xC000 ≤ a.toNat ∧ a.toNat < 0xE000
    | .io => 0xFF00 ≤ a.toNat ∧ a.toNat < 0xFF80
    | .hram => 0xFF80 ≤ a.toNat ∧ a.toNat < 0xFFFF
    | .unmapped => (0x4000 ≤ a.toNat ∧ a.toNat < 0x8000) ∨ (0xA000 ≤ a.toNat ∧ a.toNat < 0xC000) ∨
        (0xE000 ≤ a.toNat ∧ a.toNat < 0xFF00) ∨ a.toNat = 0xFFFF := by
  have h := a.isLt
  simp only [regionOf]
  split_ifs <;> simp only <;> omega

theorem written_self {s : State} {a : Word} {v : Byte} (h : a.toNat < 0xFF00 ∨ 0xFF80 ≤ a.toNat) : Written s a v s := by
  have h1 : a ≠ 0xFF40#16 := by rintro rfl; simp at h
  have h2 : a ≠ 0xFF42#16 := by rintro rfl; simp at h
  have h3 : a ≠ 0xFF47#16 := by rintro rfl; simp at h
  have h4 : a ≠ 0xFF50#16 := by rintro rfl; simp at h
  exact ⟨rfl, rfl, rfl, rfl, rfl, rfl, .inl rfl, .inl ⟨rfl, h4⟩, by simp [h1, h2, h3]⟩

theorem written_setMemByte {s : State} {a : Word} {v : Byte} (hr : ramAddr a.toNat = true)
    (h1 : a ≠ 0xFF40#16) (h2 : a ≠ 0xFF42#16) (h3 : a ≠ 0xFF47#16) (h4 : a ≠ 0xFF50#16) :
    Written s a v (s.setMemByte a v) :=
  ⟨rfl, rfl, rfl, rfl, rfl, rfl, .inr ⟨hr, rfl⟩, .inl ⟨rfl, h4⟩, by simp [h1, h2, h3]⟩

/-- A write that succeeds changes what `Written` says and nothing else. -/
theorem busWrite_ok {s t : State} {a : Word} {v : Byte} (h : s.busWrite a v = .ok t) : Written s a v t := by
  have hb := regionOf_bounds s.bootLatch a
  unfold State.busWrite at h
  have store : ∀ (hr : ramAddr a.toNat = true) (ho : a.toNat < 0xFF00 ∨ 0xFF80 ≤ a.toNat),
      Written s a v (s.setMemByte a v) := by
    intro hr ho
    refine written_setMemByte hr ?_ ?_ ?_ ?_ <;> (rintro rfl; simp at ho)
  split at h <;> rename_i hreg <;> rw [hreg] at hb <;> simp only at hb
  · cases h
  · cases h
  · cases h
    split
    · exact written_self (by omega)
    · exact store (by simp [ramAddr]; omega) (by omega)
  · cases h
    exact store (by simp [ramAddr]; omega) (by omega)
  · have hr : ramAddr a.toNat = true := by simp [ramAddr]; omega
    unfold State.ioWrite at h
    split at h
    · unfold Ppu.writeRegister at h
      by_cases h1 : a = 0xFF40#16
      · subst h1; simp only [if_true] at h; cases h
        exact ⟨rfl, rfl, rfl, rfl, rfl, rfl, .inl rfl, .inl ⟨rfl, by decide⟩, by simp⟩
      by_cases h2 : a = 0xFF42#16
      · subst h2; simp at h; cases h
        exact ⟨rfl, rfl, rfl, rfl, rfl, rfl, .inl rfl, .inl ⟨rfl, by decide⟩, by simp⟩
      by_cases h3 : a = 0xFF44#16
      · subst h3; simp at h; cases h
        exact ⟨rfl, rfl, rfl, rfl, rfl, rfl, .inl rfl, .inl ⟨rfl, by decide⟩, by simp⟩
      by_cases h4 : a = 0xFF47#16
      · subst h4; simp at h; cases h
        exact ⟨rfl, rfl, rfl, rfl, rfl, rfl, .inl rfl, .inl ⟨rfl, by decide⟩, by simp⟩
      simp [h1, h2, h3, h4] at h
    · rename_i hown
      simp only [ppuOwned, Bool.or_eq_true, beq_iff_eq, not_or] at hown
      split at h
      · rename_i h4; cases h
        exact ⟨rfl, rfl, rfl, rfl, rfl, rfl, .inr ⟨hr, rfl⟩, .inr ⟨rfl, h4⟩, by simp [hown]⟩
      · rename_i h4; cases h
        exact written_setMemByte hr hown.1.1.1 hown.1.1.2 hown.2 h4
  · cases h
    exact store (by simp [ramAddr]; omega) (by omega)
  · cases h

/-- A write fails in two ways only. -/
theorem busWrite_error {s : State} {a : Word} {v : Byte} {f : Fault} (h : s.busWrite a v = .error f) :
    (f = .readOnlyViolation a ∧ a.toNat < 0x4000) ∨ (f = .busError a .write ∧ regionOf s.bootLatch a = .unmapped) := by
  have hb := regionOf_bounds s.bootLatch a
  unfold State.busWrite at h
  split at h <;> rename_i hreg <;> rw [hreg] at hb <;> simp only at hb
  · cases h; exact .inl ⟨rfl, by omega⟩
  · cases h; exact .inl ⟨rfl, hb⟩
  · cases h
  · cases h
  · unfold State.ioWrite at h
    split at h
    · rename_i ho
      simp only [ppuOwned, Bool.or_eq_true, beq_iff_eq] at ho
      rcases ho with ((rfl | rfl) | rfl) | rfl <;> simp [Ppu.writeRegister] at h
    · split at h <;> cases h
  · cases h
  · cases h; exact .inr ⟨rfl, hreg⟩

/-- A read fails only at an unmapped address. -/
theorem busRead_error {s : State} {a : Word} {f : Fault} (h : s.busRead a = .error f) :
    f = .busError a .read ∧ regionOf s.bootLatch a = .unmapped := by
  unfold State.busRead at h
  split at h <;> rename_i hreg
  · cases h
  · cases h
  · cases h
  · cases h
  · unfold State.ioRead at h
    split at h
    · rename_i ho
      simp only [ppuOwned, Bool.or_eq_true, beq_iff_eq] at ho
      rcases ho with ((rfl | rfl) | rfl) | rfl <;> simp [Ppu.readRegister] at h
    · cases h
  · cases h
  · cases h; exact ⟨rfl, hreg⟩

/-- A write of other registers is the same write. -/
theorem busWrite_mapRegs (s : State) (f : RegFile → RegFile) (a : Word) (v : Byte) :
    (s.mapRegs f).busWrite a v = (s.busWrite a v).map fun t => t.mapRegs f := by
  unfold State.busWrite
  rw [State.mapRegs_bootLatch]
  cases regionOf s.bootLatch a
  · rfl
  · rfl
  · show Except.ok (if vramBlocked s.cfg s.ppu = true then s.mapRegs f else (s.setMemByte a v).mapRegs f) = _
    by_cases h : vramBlocked s.cfg s.ppu = true
    · simp only [if_pos h]; rfl
    · simp only [if_neg h]; rfl
  · rfl
  · show (s.mapRegs f).ioWrite a v = _
    unfold State.ioWrite
    rw [State.mapRegs_ppu]
    by_cases ho : ppuOwned a = true
    · simp only [if_pos ho]
      cases s.ppu.writeRegister a v <;> rfl
    · simp only [if_neg ho]
      by_cases h4 : a = 0xFF50#16
      · simp only [if_pos h4]; rfl
      · simp only [if_neg h4]; rfl
  · rfl
  · rfl

end Sys2Proof.Machine
end

