-- ==== Sys2Proof/Laws/Words.lean ====
section
/-! SUPPORT. Joining and splitting words, and displacements (spec R8, R67, R102). -/

namespace Sys2Proof

/-- `hi:lo` as a number (R8). -/
theorem toNat_joinBytes (hi lo : Byte) : (joinBytes hi lo).toNat = hi.toNat * 256 + lo.toNat := by
  have h := lo.isLt
  simp only [joinBytes, BitVec.toNat_append, Nat.shiftLeft_eq]
  rw [Nat.mul_comm, ← Nat.two_pow_add_eq_or_of_lt h]

theorem toNat_hiByte (v : Word) : (hiByte v).toNat = v.toNat / 256 := by
  have h := v.isLt
  simp only [hiByte, BitVec.extractLsb'_toNat, Nat.shiftRight_eq_div_pow]
  omega

theorem toNat_loByte (v : Word) : (loByte v).toNat = v.toNat % 256 := by
  simp [loByte, BitVec.extractLsb'_toNat]

@[simp] theorem joinBytes_hi_lo (v : Word) : joinBytes (hiByte v) (loByte v) = v := by
  apply BitVec.eq_of_toNat_eq
  rw [toNat_joinBytes, toNat_hiByte, toNat_loByte]
  omega

@[simp] theorem hiByte_joinBytes (hi lo : Byte) : hiByte (joinBytes hi lo) = hi := by
  apply BitVec.eq_of_toNat_eq
  have h := lo.isLt
  rw [toNat_hiByte, toNat_joinBytes]
  omega

@[simp] theorem loByte_joinBytes (hi lo : Byte) : loByte (joinBytes hi lo) = lo := by
  apply BitVec.eq_of_toNat_eq
  have h := lo.isLt
  rw [toNat_loByte, toNat_joinBytes]
  omega

/-- A displacement in range survives its operand byte (R102). -/
theorem dispOf_dispByte {e : Int} (h : dispInRange e = true) : dispOf (dispByte e) = e := by
  simp only [dispInRange, Bool.and_eq_true, decide_eq_true_eq] at h
  simp only [dispOf, dispByte, BitVec.toInt_ofInt, Int.bmod]
  omega

/-- Every operand byte is a displacement in range (R102). -/
theorem dispInRange_dispOf (n : Byte) : dispInRange (dispOf n) = true := by
  have h := n.isLt
  simp only [dispInRange, dispOf, BitVec.toInt_eq_toNat_bmod, Int.bmod, Bool.and_eq_true, decide_eq_true_eq]
  omega

@[simp] theorem dispByte_dispOf (n : Byte) : dispByte (dispOf n) = n := by
  simp [dispByte, dispOf]

end Sys2Proof
end

