-- ==== Sys2Proof/Laws/Decoding.lean ====
section
/-! SUPPORT. The decoder beside the encoder: what each opcode byte decodes to is encoded with that byte, and what
each instruction is encoded to has the length of its first byte. -/

namespace Sys2Proof

/-- A statement about every byte, from its 256 cases. -/
theorem byte_cases {P : Byte → Prop} (h : ∀ n : Fin 256, P (BitVec.ofFin n)) (b : Byte) : P b := h b.toFin

theorem instrLength_cases : ∀ op : Byte, instrLength op = 1 ∨ instrLength op = 2 ∨ instrLength op = 3 := by decide

/-- What a first byte other than the prefix decodes to, encoded again. -/
def DecodesBack (op : Byte) : Prop :=
  op ≠ 0xCB#8 → ∀ n hi, (decodeBase op n hi).wellFormed = true ∧
    encode (decodeBase op n hi) = if instrLength op = 3 then [op, n, hi] else if instrLength op = 2 then [op, n] else [op]

theorem encode_decodeBase (op : Byte) : DecodesBack op := by
  refine byte_cases (P := DecodesBack) (fun k => ?_) op
  fin_cases k
  all_goals first
    | exact fun h => absurd rfl h
    | exact fun _ n hi => ⟨rfl, rfl⟩
    | exact fun _ n hi => ⟨rfl, congrArg₂ (fun x y => [_, x, y]) (loByte_joinBytes hi n) (hiByte_joinBytes hi n)⟩
    | exact fun _ n hi => ⟨dispInRange_dispOf n, congrArg (fun x => [_, x]) (dispByte_dispOf n)⟩

theorem encode_decodeCb : ∀ op2 : Byte, (decodeCb op2).wellFormed = true ∧ encode (decodeCb op2) = [0xCB#8, op2] := by
  decide

/-- The encoding of a well-formed instruction: the prefix and one byte, or a first byte with as many operand bytes
as its length asks for; and its decoding. -/
theorem encode_cases (i : Instr) (h : i.wellFormed = true) :
    ∃ op rest, encode i = op :: rest ∧
      ((op = 0xCB#8 ∧ ∃ op2, rest = [op2] ∧ i.opcode = .cb op2 ∧ decodeCb op2 = i) ∨
        (op ≠ 0xCB#8 ∧ i.opcode = .base op ∧ rest.length = instrLength op - 1 ∧
          decodeBase op (rest.getD 0 0) (rest.getD 1 0) = i)) := by
  cases i
  all_goals first
    | exact ⟨_, _, rfl, .inl ⟨rfl, _, rfl, rfl, rfl⟩⟩
    | exact ⟨_, _, rfl, .inr ⟨by decide, rfl, rfl, rfl⟩⟩
    | exact ⟨_, _, rfl, .inr ⟨by decide, rfl, rfl, congrArg _ (joinBytes_hi_lo _)⟩⟩
    | exact ⟨_, _, rfl, .inr ⟨by decide, rfl, rfl, congrArg _ (dispOf_dispByte h)⟩⟩

end Sys2Proof
end

