-- ==== Sys2Proof/Laws/Families.lean ====
section
/-! SUPPORT. The families of instructions: a case split into about sixty families instead of 511 constructors, and
for each family what `exec` is, over the shared operations of the meanings. -/

namespace Sys2Proof

/-- Every instruction is of one of these families. -/
theorem Instr.families {P : Instr → Prop}
    (h_ldReg : ∀ (r r' : Reg8), P (Instr.ldReg r r'))
    (h_ldRegMem : ∀ (r : Reg8), P (Instr.ldRegMem r))
    (h_ldMemReg : ∀ (r : Reg8), P (Instr.ldMemReg r))
    (h_ldRegImm : ∀ (r : Reg8) (n : Byte), P (Instr.ldRegImm r n))
    (h_ldPairImm : ∀ (rr : Reg16) (nn : Word), P (Instr.ldPairImm rr nn))
    (h_push : ∀ (q : StackReg), P (Instr.push q))
    (h_pop : ∀ (q : StackReg), P (Instr.pop q))
    (h_alu : ∀ (f : AluOp) (x : Src8), P (Instr.alu f x))
    (h_aluImm : ∀ (f : AluOp) (n : Byte), P (Instr.aluImm f n))
    (h_inc8 : ∀ (x : Src8), P (Instr.inc8 x))
    (h_dec8 : ∀ (x : Src8), P (Instr.dec8 x))
    (h_inc16 : ∀ (rr : Reg16), P (Instr.inc16 rr))
    (h_dec16 : ∀ (rr : Reg16), P (Instr.dec16 rr))
    (h_addHl : ∀ (rr : Reg16), P (Instr.addHl rr))
    (h_rot : ∀ (f : RotOp) (x : Src8), P (Instr.rot f x))
    (h_bit : ∀ (b : Fin 8) (x : Src8), P (Instr.bit b x))
    (h_res : ∀ (b : Fin 8) (x : Src8), P (Instr.res b x))
    (h_set : ∀ (b : Fin 8) (x : Src8), P (Instr.set b x))
    (h_jrCond : ∀ (cc : Cond) (e : Int), P (Instr.jrCond cc e))
    (h_jpCond : ∀ (cc : Cond) (nn : Word), P (Instr.jpCond cc nn))
    (h_callCond : ∀ (cc : Cond) (nn : Word), P (Instr.callCond cc nn))
    (h_retCond : ∀ (cc : Cond), P (Instr.retCond cc))
    (h_rst : ∀ (t : Fin 8), P (Instr.rst t))
    (h_undefined : ∀ (u : UndefinedByte), P (Instr.undefined u))
    (h_nop : P Instr.nop)
    (h_ld_mBC_A : P Instr.ld_mBC_A)
    (h_rlca : P Instr.rlca)
    (h_ld_mnn_SP : ∀ nn : Word, P (Instr.ld_mnn_SP nn))
    (h_ld_A_mBC : P Instr.ld_A_mBC)
    (h_rrca : P Instr.rrca)
    (h_stop : ∀ n : Byte, P (Instr.stop n))
    (h_ld_mDE_A : P Instr.ld_mDE_A)
    (h_rla : P Instr.rla)
    (h_jr_e : ∀ e : Int, P (Instr.jr_e e))
    (h_ld_A_mDE : P Instr.ld_A_mDE)
    (h_rra : P Instr.rra)
    (h_ld_mHLinc_A : P Instr.ld_mHLinc_A)
    (h_daa : P Instr.daa)
    (h_ld_A_mHLinc : P Instr.ld_A_mHLinc)
    (h_cpl : P Instr.cpl)
    (h_ld_mHLdec_A : P Instr.ld_mHLdec_A)
    (h_ld_mHL_n : ∀ n : Byte, P (Instr.ld_mHL_n n))
    (h_scf : P Instr.scf)
    (h_ld_A_mHLdec : P Instr.ld_A_mHLdec)
    (h_ccf : P Instr.ccf)
    (h_halt : P Instr.halt)
    (h_jp_nn : ∀ nn : Word, P (Instr.jp_nn nn))
    (h_ret : P Instr.ret)
    (h_call_nn : ∀ nn : Word, P (Instr.call_nn nn))
    (h_reti : P Instr.reti)
    (h_ldh_ion_A : ∀ n : Byte, P (Instr.ldh_ion_A n))
    (h_ld_ioC_A : P Instr.ld_ioC_A)
    (h_add_SP_e : ∀ e : Int, P (Instr.add_SP_e e))
    (h_jp_HL : P Instr.jp_HL)
    (h_ld_mnn_A : ∀ nn : Word, P (Instr.ld_mnn_A nn))
    (h_ldh_A_ion : ∀ n : Byte, P (Instr.ldh_A_ion n))
    (h_ld_A_ioC : P Instr.ld_A_ioC)
    (h_di : P Instr.di)
    (h_ld_HL_SPe : ∀ e : Int, P (Instr.ld_HL_SPe e))
    (h_ld_SP_HL : P Instr.ld_SP_HL)
    (h_ld_A_mnn : ∀ nn : Word, P (Instr.ld_A_mnn nn))
    (h_ei : P Instr.ei)
    : ∀ i, P i := by
  intro i
  cases i with
  | nop => exact h_nop
  | ld_BC_nn nn => exact h_ldPairImm .bc nn
  | ld_mBC_A => exact h_ld_mBC_A
  | inc_BC => exact h_inc16 .bc
  | inc_B => exact h_inc8 (.reg .b)
  | dec_B => exact h_dec8 (.reg .b)
  | ld_B_n n => exact h_ldRegImm .b n
  | rlca => exact h_rlca
  | ld_mnn_SP nn => exact h_ld_mnn_SP nn
  | add_HL_BC => exact h_addHl .bc
  | ld_A_mBC => exact h_ld_A_mBC
  | dec_BC => exact h_dec16 .bc
  | inc_C => exact h_inc8 (.reg .c)
  | dec_C => exact h_dec8 (.reg .c)
  | ld_C_n n => exact h_ldRegImm .c n
  | rrca => exact h_rrca
  | stop n => exact h_stop n
  | ld_DE_nn nn => exact h_ldPairImm .de nn
  | ld_mDE_A => exact h_ld_mDE_A
  | inc_DE => exact h_inc16 .de
  | inc_D => exact h_inc8 (.reg .d)
  | dec_D => exact h_dec8 (.reg .d)
  | ld_D_n n => exact h_ldRegImm .d n
  | rla => exact h_rla
  | jr_e e => exact h_jr_e e
  | add_HL_DE => exact h_addHl .de
  | ld_A_mDE => exact h_ld_A_mDE
  | dec_DE => exact h_dec16 .de
  | inc_E => exact h_inc8 (.reg .e)
  | dec_E => exact h_dec8 (.reg .e)
  | ld_E_n n => exact h_ldRegImm .e n
  | rra => exact h_rra
  | jr_NZ_e e => exact h_jrCond .nz e
  | ld_HL_nn nn => exact h_ldPairImm .hl nn
  | ld_mHLinc_A => exact h_ld_mHLinc_A
  | inc_HL => exact h_inc16 .hl
  | inc_H => exact h_inc8 (.reg .h)
  | dec_H => exact h_dec8 (.reg .h)
  | ld_H_n n => exact h_ldRegImm .h n
  | daa => exact h_daa
  | jr_Z_e e => exact h_jrCond .z e
  | add_HL_HL => exact h_addHl .hl
  | ld_A_mHLinc => exact h_ld_A_mHLinc
  | dec_HL => exact h_dec16 .hl
  | inc_L => exact h_inc8 (.reg .l)
  | dec_L => exact h_dec8 (.reg .l)
  | ld_L_n n => exact h_ldRegImm .l n
  | cpl => exact h_cpl
  | jr_NC_e e => exact h_jrCond .nc e
  | ld_SP_nn nn => exact h_ldPairImm .sp nn
  | ld_mHLdec_A => exact h_ld_mHLdec_A
  | inc_SP => exact h_inc16 .sp
  | inc_mHL => exact h_inc8 .mHL
  | dec_mHL => exact h_dec8 .mHL
  | ld_mHL_n n => exact h_ld_mHL_n n
  | scf => exact h_scf
  | jr_C_e e => exact h_jrCond .c e
  | add_HL_SP => exact h_addHl .sp
  | ld_A_mHLdec => exact h_ld_A_mHLdec
  | dec_SP => exact h_dec16 .sp
  | inc_A => exact h_inc8 (.reg .a)
  | dec_A => exact h_dec8 (.reg .a)
  | ld_A_n n => exact h_ldRegImm .a n
  | ccf => exact h_ccf
  | ld_B_B => exact h_ldReg .b .b
  | ld_B_C => exact h_ldReg .b .c
  | ld_B_D => exact h_ldReg .b .d
  | ld_B_E => exact h_ldReg .b .e
  | ld_B_H => exact h_ldReg .b .h
  | ld_B_L => exact h_ldReg .b .l
  | ld_B_mHL => exact h_ldRegMem .b
  | ld_B_A => exact h_ldReg .b .a
  | ld_C_B => exact h_ldReg .c .b
  | ld_C_C => exact h_ldReg .c .c
  | ld_C_D => exact h_ldReg .c .d
  | ld_C_E => exact h_ldReg .c .e
  | ld_C_H => exact h_ldReg .c .h
  | ld_C_L => exact h_ldReg .c .l
  | ld_C_mHL => exact h_ldRegMem .c
  | ld_C_A => exact h_ldReg .c .a
  | ld_D_B => exact h_ldReg .d .b
  | ld_D_C => exact h_ldReg .d .c
  | ld_D_D => exact h_ldReg .d .d
  | ld_D_E => exact h_ldReg .d .e
  | ld_D_H => exact h_ldReg .d .h
  | ld_D_L => exact h_ldReg .d .l
  | ld_D_mHL => exact h_ldRegMem .d
  | ld_D_A => exact h_ldReg .d .a
  | ld_E_B => exact h_ldReg .e .b
  | ld_E_C => exact h_ldReg .e .c
  | ld_E_D => exact h_ldReg .e .d
  | ld_E_E => exact h_ldReg .e .e
  | ld_E_H => exact h_ldReg .e .h
  | ld_E_L => exact h_ldReg .e .l
  | ld_E_mHL => exact h_ldRegMem .e
  | ld_E_A => exact h_ldReg .e .a
  | ld_H_B => exact h_ldReg .h .b
  | ld_H_C => exact h_ldReg .h .c
  | ld_H_D => exact h_ldReg .h .d
  | ld_H_E => exact h_ldReg .h .e
  | ld_H_H => exact h_ldReg .h .h
  | ld_H_L => exact h_ldReg .h .l
  | ld_H_mHL => exact h_ldRegMem .h
  | ld_H_A => exact h_ldReg .h .a
  | ld_L_B => exact h_ldReg .l .b
  | ld_L_C => exact h_ldReg .l .c
  | ld_L_D => exact h_ldReg .l .d
  | ld_L_E => exact h_ldReg .l .e
  | ld_L_H => exact h_ldReg .l .h
  | ld_L_L => exact h_ldReg .l .l
  | ld_L_mHL => exact h_ldRegMem .l
  | ld_L_A => exact h_ldReg .l .a
  | ld_mHL_B => exact h_ldMemReg .b
  | ld_mHL_C => exact h_ldMemReg .c
  | ld_mHL_D => exact h_ldMemReg .d
  | ld_mHL_E => exact h_ldMemReg .e
  | ld_mHL_H => exact h_ldMemReg .h
  | ld_mHL_L => exact h_ldMemReg .l
  | halt => exact h_halt
  | ld_mHL_A => exact h_ldMemReg .a
  | ld_A_B => exact h_ldReg .a .b
  | ld_A_C => exact h_ldReg .a .c
  | ld_A_D => exact h_ldReg .a .d
  | ld_A_E => exact h_ldReg .a .e
  | ld_A_H => exact h_ldReg .a .h
  | ld_A_L => exact h_ldReg .a .l
  | ld_A_mHL => exact h_ldRegMem .a
  | ld_A_A => exact h_ldReg .a .a
  | add_A_B => exact h_alu .add (.reg .b)
  | add_A_C => exact h_alu .add (.reg .c)
  | add_A_D => exact h_alu .add (.reg .d)
  | add_A_E => exact h_alu .add (.reg .e)
  | add_A_H => exact h_alu .add (.reg .h)
  | add_A_L => exact h_alu .add (.reg .l)
  | add_A_mHL => exact h_alu .add .mHL
  | add_A_A => exact h_alu .add (.reg .a)
  | adc_A_B => exact h_alu .adc (.reg .b)
  | adc_A_C => exact h_alu .adc (.reg .c)
  | adc_A_D => exact h_alu .adc (.reg .d)
  | adc_A_E => exact h_alu .adc (.reg .e)
  | adc_A_H => exact h_alu .adc (.reg .h)
  | adc_A_L => exact h_alu .adc (.reg .l)
  | adc_A_mHL => exact h_alu .adc .mHL
  | adc_A_A => exact h_alu .adc (.reg .a)
  | sub_B => exact h_alu .sub (.reg .b)
  | sub_C => exact h_alu .sub (.reg .c)
  | sub_D => exact h_alu .sub (.reg .d)
  | sub_E => exact h_alu .sub (.reg .e)
  | sub_H => exact h_alu .sub (.reg .h)
  | sub_L => exact h_alu .sub (.reg .l)
  | sub_mHL => exact h_alu .sub .mHL
  | sub_A => exact h_alu .sub (.reg .a)
  | sbc_A_B => exact h_alu .sbc (.reg .b)
  | sbc_A_C => exact h_alu .sbc (.reg .c)
  | sbc_A_D => exact h_alu .sbc (.reg .d)
  | sbc_A_E => exact h_alu .sbc (.reg .e)
  | sbc_A_H => exact h_alu .sbc (.reg .h)
  | sbc_A_L => exact h_alu .sbc (.reg .l)
  | sbc_A_mHL => exact h_alu .sbc .mHL
  | sbc_A_A => exact h_alu .sbc (.reg .a)
  | and_B => exact h_alu .and (.reg .b)
  | and_C => exact h_alu .and (.reg .c)
  | and_D => exact h_alu .and (.reg .d)
  | and_E => exact h_alu .and (.reg .e)
  | and_H => exact h_alu .and (.reg .h)
  | and_L => exact h_alu .and (.reg .l)
  | and_mHL => exact h_alu .and .mHL
  | and_A => exact h_alu .and (.reg .a)
  | xor_B => exact h_alu .xor (.reg .b)
  | xor_C => exact h_alu .xor (.reg .c)
  | xor_D => exact h_alu .xor (.reg .d)
  | xor_E => exact h_alu .xor (.reg .e)
  | xor_H => exact h_alu .xor (.reg .h)
  | xor_L => exact h_alu .xor (.reg .l)
  | xor_mHL => exact h_alu .xor .mHL
  | xor_A => exact h_alu .xor (.reg .a)
  | or_B => exact h_alu .or (.reg .b)
  | or_C => exact h_alu .or (.reg .c)
  | or_D => exact h_alu .or (.reg .d)
  | or_E => exact h_alu .or (.reg .e)
  | or_H => exact h_alu .or (.reg .h)
  | or_L => exact h_alu .or (.reg .l)
  | or_mHL => exact h_alu .or .mHL
  | or_A => exact h_alu .or (.reg .a)
  | cp_B => exact h_alu .cp (.reg .b)
  | cp_C => exact h_alu .cp (.reg .c)
  | cp_D => exact h_alu .cp (.reg .d)
  | cp_E => exact h_alu .cp (.reg .e)
  | cp_H => exact h_alu .cp (.reg .h)
  | cp_L => exact h_alu .cp (.reg .l)
  | cp_mHL => exact h_alu .cp .mHL
  | cp_A => exact h_alu .cp (.reg .a)
  | ret_NZ => exact h_retCond .nz
  | pop_BC => exact h_pop .bc
  | jp_NZ_nn nn => exact h_jpCond .nz nn
  | jp_nn nn => exact h_jp_nn nn
  | call_NZ_nn nn => exact h_callCond .nz nn
  | push_BC => exact h_push .bc
  | add_A_n n => exact h_aluImm .add n
  | rst_00H => exact h_rst 0
  | ret_Z => exact h_retCond .z
  | ret => exact h_ret
  | jp_Z_nn nn => exact h_jpCond .z nn
  | call_Z_nn nn => exact h_callCond .z nn
  | call_nn nn => exact h_call_nn nn
  | adc_A_n n => exact h_aluImm .adc n
  | rst_08H => exact h_rst 1
  | ret_NC => exact h_retCond .nc
  | pop_DE => exact h_pop .de
  | jp_NC_nn nn => exact h_jpCond .nc nn
  | undefined_D3 => exact h_undefined .uD3
  | call_NC_nn nn => exact h_callCond .nc nn
  | push_DE => exact h_push .de
  | sub_n n => exact h_aluImm .sub n
  | rst_10H => exact h_rst 2
  | ret_C => exact h_retCond .c
  | reti => exact h_reti
  | jp_C_nn nn => exact h_jpCond .c nn
  | undefined_DB => exact h_undefined .uDB
  | call_C_nn nn => exact h_callCond .c nn
  | undefined_DD => exact h_undefined .uDD
  | sbc_A_n n => exact h_aluImm .sbc n
  | rst_18H => exact h_rst 3
  | ldh_ion_A n => exact h_ldh_ion_A n
  | pop_HL => exact h_pop .hl
  | ld_ioC_A => exact h_ld_ioC_A
  | undefined_E3 => exact h_undefined .uE3
  | undefined_E4 => exact h_undefined .uE4
  | push_HL => exact h_push .hl
  | and_n n => exact h_aluImm .and n
  | rst_20H => exact h_rst 4
  | add_SP_e e => exact h_add_SP_e e
  | jp_HL => exact h_jp_HL
  | ld_mnn_A nn => exact h_ld_mnn_A nn
  | undefined_EB => exact h_undefined .uEB
  | undefined_EC => exact h_undefined .uEC
  | undefined_ED => exact h_undefined .uED
  | xor_n n => exact h_aluImm .xor n
  | rst_28H => exact h_rst 5
  | ldh_A_ion n => exact h_ldh_A_ion n
  | pop_AF => exact h_pop .af
  | ld_A_ioC => exact h_ld_A_ioC
  | di => exact h_di
  | undefined_F4 => exact h_undefined .uF4
  | push_AF => exact h_push .af
  | or_n n => exact h_aluImm .or n
  | rst_30H => exact h_rst 6
  | ld_HL_SPe e => exact h_ld_HL_SPe e
  | ld_SP_HL => exact h_ld_SP_HL
  | ld_A_mnn nn => exact h_ld_A_mnn nn
  | ei => exact h_ei
  | undefined_FC => exact h_undefined .uFC
  | undefined_FD => exact h_undefined .uFD
  | cp_n n => exact h_aluImm .cp n
  | rst_38H => exact h_rst 7
  | rlc_B => exact h_rot .rlc (.reg .b)
  | rlc_C => exact h_rot .rlc (.reg .c)
  | rlc_D => exact h_rot .rlc (.reg .d)
  | rlc_E => exact h_rot .rlc (.reg .e)
  | rlc_H => exact h_rot .rlc (.reg .h)
  | rlc_L => exact h_rot .rlc (.reg .l)
  | rlc_mHL => exact h_rot .rlc .mHL
  | rlc_A => exact h_rot .rlc (.reg .a)
  | rrc_B => exact h_rot .rrc (.reg .b)
  | rrc_C => exact h_rot .rrc (.reg .c)
  | rrc_D => exact h_rot .rrc (.reg .d)
  | rrc_E => exact h_rot .rrc (.reg .e)
  | rrc_H => exact h_rot .rrc (.reg .h)
  | rrc_L => exact h_rot .rrc (.reg .l)
  | rrc_mHL => exact h_rot .rrc .mHL
  | rrc_A => exact h_rot .rrc (.reg .a)
  | rl_B => exact h_rot .rl (.reg .b)
  | rl_C => exact h_rot .rl (.reg .c)
  | rl_D => exact h_rot .rl (.reg .d)
  | rl_E => exact h_rot .rl (.reg .e)
  | rl_H => exact h_rot .rl (.reg .h)
  | rl_L => exact h_rot .rl (.reg .l)
  | rl_mHL => exact h_rot .rl .mHL
  | rl_A => exact h_rot .rl (.reg .a)
  | rr_B => exact h_rot .rr (.reg .b)
  | rr_C => exact h_rot .rr (.reg .c)
  | rr_D => exact h_rot .rr (.reg .d)
  | rr_E => exact h_rot .rr (.reg .e)
  | rr_H => exact h_rot .rr (.reg .h)
  | rr_L => exact h_rot .rr (.reg .l)
  | rr_mHL => exact h_rot .rr .mHL
  | rr_A => exact h_rot .rr (.reg .a)
  | sla_B => exact h_rot .sla (.reg .b)
  | sla_C => exact h_rot .sla (.reg .c)
  | sla_D => exact h_rot .sla (.reg .d)
  | sla_E => exact h_rot .sla (.reg .e)
  | sla_H => exact h_rot .sla (.reg .h)
  | sla_L => exact h_rot .sla (.reg .l)
  | sla_mHL => exact h_rot .sla .mHL
  | sla_A => exact h_rot .sla (.reg .a)
  | sra_B => exact h_rot .sra (.reg .b)
  | sra_C => exact h_rot .sra (.reg .c)
  | sra_D => exact h_rot .sra (.reg .d)
  | sra_E => exact h_rot .sra (.reg .e)
  | sra_H => exact h_rot .sra (.reg .h)
  | sra_L => exact h_rot .sra (.reg .l)
  | sra_mHL => exact h_rot .sra .mHL
  | sra_A => exact h_rot .sra (.reg .a)
  | swap_B => exact h_rot .swap (.reg .b)
  | swap_C => exact h_rot .swap (.reg .c)
  | swap_D => exact h_rot .swap (.reg .d)
  | swap_E => exact h_rot .swap (.reg .e)
  | swap_H => exact h_rot .swap (.reg .h)
  | swap_L => exact h_rot .swap (.reg .l)
  | swap_mHL => exact h_rot .swap .mHL
  | swap_A => exact h_rot .swap (.reg .a)
  | srl_B => exact h_rot .srl (.reg .b)
  | srl_C => exact h_rot .srl (.reg .c)
  | srl_D => exact h_rot .srl (.reg .d)
  | srl_E => exact h_rot .srl (.reg .e)
  | srl_H => exact h_rot .srl (.reg .h)
  | srl_L => exact h_rot .srl (.reg .l)
  | srl_mHL => exact h_rot .srl .mHL
  | srl_A => exact h_rot .srl (.reg .a)
  | bit_0_B => exact h_bit 0 (.reg .b)
  | bit_0_C => exact h_bit 0 (.reg .c)
  | bit_0_D => exact h_bit 0 (.reg .d)
  | bit_0_E => exact h_bit 0 (.reg .e)
  | bit_0_H => exact h_bit 0 (.reg .h)
  | bit_0_L => exact h_bit 0 (.reg .l)
  | bit_0_mHL => exact h_bit 0 .mHL
  | bit_0_A => exact h_bit 0 (.reg .a)
  | bit_1_B => exact h_bit 1 (.reg .b)
  | bit_1_C => exact h_bit 1 (.reg .c)
  | bit_1_D => exact h_bit 1 (.reg .d)
  | bit_1_E => exact h_bit 1 (.reg .e)
  | bit_1_H => exact h_bit 1 (.reg .h)
  | bit_1_L => exact h_bit 1 (.reg .l)
  | bit_1_mHL => exact h_bit 1 .mHL
  | bit_1_A => exact h_bit 1 (.reg .a)
  | bit_2_B => exact h_bit 2 (.reg .b)
  | bit_2_C => exact h_bit 2 (.reg .c)
  | bit_2_D => exact h_bit 2 (.reg .d)
  | bit_2_E => exact h_bit 2 (.reg .e)
  | bit_2_H => exact h_bit 2 (.reg .h)
  | bit_2_L => exact h_bit 2 (.reg .l)
  | bit_2_mHL => exact h_bit 2 .mHL
  | bit_2_A => exact h_bit 2 (.reg .a)
  | bit_3_B => exact h_bit 3 (.reg .b)
  | bit_3_C => exact h_bit 3 (.reg .c)
  | bit_3_D => exact h_bit 3 (.reg .d)
  | bit_3_E => exact h_bit 3 (.reg .e)
  | bit_3_H => exact h_bit 3 (.reg .h)
  | bit_3_L => exact h_bit 3 (.reg .l)
  | bit_3_mHL => exact h_bit 3 .mHL
  | bit_3_A => exact h_bit 3 (.reg .a)
  | bit_4_B => exact h_bit 4 (.reg .b)
  | bit_4_C => exact h_bit 4 (.reg .c)
  | bit_4_D => exact h_bit 4 (.reg .d)
  | bit_4_E => exact h_bit 4 (.reg .e)
  | bit_4_H => exact h_bit 4 (.reg .h)
  | bit_4_L => exact h_bit 4 (.reg .l)
  | bit_4_mHL => exact h_bit 4 .mHL
  | bit_4_A => exact h_bit 4 (.reg .a)
  | bit_5_B => exact h_bit 5 (.reg .b)
  | bit_5_C => exact h_bit 5 (.reg .c)
  | bit_5_D => exact h_bit 5 (.reg .d)
  | bit_5_E => exact h_bit 5 (.reg .e)
  | bit_5_H => exact h_bit 5 (.reg .h)
  | bit_5_L => exact h_bit 5 (.reg .l)
  | bit_5_mHL => exact h_bit 5 .mHL
  | bit_5_A => exact h_bit 5 (.reg .a)
  | bit_6_B => exact h_bit 6 (.reg .b)
  | bit_6_C => exact h_bit 6 (.reg .c)
  | bit_6_D => exact h_bit 6 (.reg .d)
  | bit_6_E => exact h_bit 6 (.reg .e)
  | bit_6_H => exact h_bit 6 (.reg .h)
  | bit_6_L => exact h_bit 6 (.reg .l)
  | bit_6_mHL => exact h_bit 6 .mHL
  | bit_6_A => exact h_bit 6 (.reg .a)
  | bit_7_B => exact h_bit 7 (.reg .b)
  | bit_7_C => exact h_bit 7 (.reg .c)
  | bit_7_D => exact h_bit 7 (.reg .d)
  | bit_7_E => exact h_bit 7 (.reg .e)
  | bit_7_H => exact h_bit 7 (.reg .h)
  | bit_7_L => exact h_bit 7 (.reg .l)
  | bit_7_mHL => exact h_bit 7 .mHL
  | bit_7_A => exact h_bit 7 (.reg .a)
  | res_0_B => exact h_res 0 (.reg .b)
  | res_0_C => exact h_res 0 (.reg .c)
  | res_0_D => exact h_res 0 (.reg .d)
  | res_0_E => exact h_res 0 (.reg .e)
  | res_0_H => exact h_res 0 (.reg .h)
  | res_0_L => exact h_res 0 (.reg .l)
  | res_0_mHL => exact h_res 0 .mHL
  | res_0_A => exact h_res 0 (.reg .a)
  | res_1_B => exact h_res 1 (.reg .b)
  | res_1_C => exact h_res 1 (.reg .c)
  | res_1_D => exact h_res 1 (.reg .d)
  | res_1_E => exact h_res 1 (.reg .e)
  | res_1_H => exact h_res 1 (.reg .h)
  | res_1_L => exact h_res 1 (.reg .l)
  | res_1_mHL => exact h_res 1 .mHL
  | res_1_A => exact h_res 1 (.reg .a)
  | res_2_B => exact h_res 2 (.reg .b)
  | res_2_C => exact h_res 2 (.reg .c)
  | res_2_D => exact h_res 2 (.reg .d)
  | res_2_E => exact h_res 2 (.reg .e)
  | res_2_H => exact h_res 2 (.reg .h)
  | res_2_L => exact h_res 2 (.reg .l)
  | res_2_mHL => exact h_res 2 .mHL
  | res_2_A => exact h_res 2 (.reg .a)
  | res_3_B => exact h_res 3 (.reg .b)
  | res_3_C => exact h_res 3 (.reg .c)
  | res_3_D => exact h_res 3 (.reg .d)
  | res_3_E => exact h_res 3 (.reg .e)
  | res_3_H => exact h_res 3 (.reg .h)
  | res_3_L => exact h_res 3 (.reg .l)
  | res_3_mHL => exact h_res 3 .mHL
  | res_3_A => exact h_res 3 (.reg .a)
  | res_4_B => exact h_res 4 (.reg .b)
  | res_4_C => exact h_res 4 (.reg .c)
  | res_4_D => exact h_res 4 (.reg .d)
  | res_4_E => exact h_res 4 (.reg .e)
  | res_4_H => exact h_res 4 (.reg .h)
  | res_4_L => exact h_res 4 (.reg .l)
  | res_4_mHL => exact h_res 4 .mHL
  | res_4_A => exact h_res 4 (.reg .a)
  | res_5_B => exact h_res 5 (.reg .b)
  | res_5_C => exact h_res 5 (.reg .c)
  | res_5_D => exact h_res 5 (.reg .d)
  | res_5_E => exact h_res 5 (.reg .e)
  | res_5_H => exact h_res 5 (.reg .h)
  | res_5_L => exact h_res 5 (.reg .l)
  | res_5_mHL => exact h_res 5 .mHL
  | res_5_A => exact h_res 5 (.reg .a)
  | res_6_B => exact h_res 6 (.reg .b)
  | res_6_C => exact h_res 6 (.reg .c)
  | res_6_D => exact h_res 6 (.reg .d)
  | res_6_E => exact h_res 6 (.reg .e)
  | res_6_H => exact h_res 6 (.reg .h)
  | res_6_L => exact h_res 6 (.reg .l)
  | res_6_mHL => exact h_res 6 .mHL
  | res_6_A => exact h_res 6 (.reg .a)
  | res_7_B => exact h_res 7 (.reg .b)
  | res_7_C => exact h_res 7 (.reg .c)
  | res_7_D => exact h_res 7 (.reg .d)
  | res_7_E => exact h_res 7 (.reg .e)
  | res_7_H => exact h_res 7 (.reg .h)
  | res_7_L => exact h_res 7 (.reg .l)
  | res_7_mHL => exact h_res 7 .mHL
  | res_7_A => exact h_res 7 (.reg .a)
  | set_0_B => exact h_set 0 (.reg .b)
  | set_0_C => exact h_set 0 (.reg .c)
  | set_0_D => exact h_set 0 (.reg .d)
  | set_0_E => exact h_set 0 (.reg .e)
  | set_0_H => exact h_set 0 (.reg .h)
  | set_0_L => exact h_set 0 (.reg .l)
  | set_0_mHL => exact h_set 0 .mHL
  | set_0_A => exact h_set 0 (.reg .a)
  | set_1_B => exact h_set 1 (.reg .b)
  | set_1_C => exact h_set 1 (.reg .c)
  | set_1_D => exact h_set 1 (.reg .d)
  | set_1_E => exact h_set 1 (.reg .e)
  | set_1_H => exact h_set 1 (.reg .h)
  | set_1_L => exact h_set 1 (.reg .l)
  | set_1_mHL => exact h_set 1 .mHL
  | set_1_A => exact h_set 1 (.reg .a)
  | set_2_B => exact h_set 2 (.reg .b)
  | set_2_C => exact h_set 2 (.reg .c)
  | set_2_D => exact h_set 2 (.reg .d)
  | set_2_E => exact h_set 2 (.reg .e)
  | set_2_H => exact h_set 2 (.reg .h)
  | set_2_L => exact h_set 2 (.reg .l)
  | set_2_mHL => exact h_set 2 .mHL
  | set_2_A => exact h_set 2 (.reg .a)
  | set_3_B => exact h_set 3 (.reg .b)
  | set_3_C => exact h_set 3 (.reg .c)
  | set_3_D => exact h_set 3 (.reg .d)
  | set_3_E => exact h_set 3 (.reg .e)
  | set_3_H => exact h_set 3 (.reg .h)
  | set_3_L => exact h_set 3 (.reg .l)
  | set_3_mHL => exact h_set 3 .mHL
  | set_3_A => exact h_set 3 (.reg .a)
  | set_4_B => exact h_set 4 (.reg .b)
  | set_4_C => exact h_set 4 (.reg .c)
  | set_4_D => exact h_set 4 (.reg .d)
  | set_4_E => exact h_set 4 (.reg .e)
  | set_4_H => exact h_set 4 (.reg .h)
  | set_4_L => exact h_set 4 (.reg .l)
  | set_4_mHL => exact h_set 4 .mHL
  | set_4_A => exact h_set 4 (.reg .a)
  | set_5_B => exact h_set 5 (.reg .b)
  | set_5_C => exact h_set 5 (.reg .c)
  | set_5_D => exact h_set 5 (.reg .d)
  | set_5_E => exact h_set 5 (.reg .e)
  | set_5_H => exact h_set 5 (.reg .h)
  | set_5_L => exact h_set 5 (.reg .l)
  | set_5_mHL => exact h_set 5 .mHL
  | set_5_A => exact h_set 5 (.reg .a)
  | set_6_B => exact h_set 6 (.reg .b)
  | set_6_C => exact h_set 6 (.reg .c)
  | set_6_D => exact h_set 6 (.reg .d)
  | set_6_E => exact h_set 6 (.reg .e)
  | set_6_H => exact h_set 6 (.reg .h)
  | set_6_L => exact h_set 6 (.reg .l)
  | set_6_mHL => exact h_set 6 .mHL
  | set_6_A => exact h_set 6 (.reg .a)
  | set_7_B => exact h_set 7 (.reg .b)
  | set_7_C => exact h_set 7 (.reg .c)
  | set_7_D => exact h_set 7 (.reg .d)
  | set_7_E => exact h_set 7 (.reg .e)
  | set_7_H => exact h_set 7 (.reg .h)
  | set_7_L => exact h_set 7 (.reg .l)
  | set_7_mHL => exact h_set 7 .mHL
  | set_7_A => exact h_set 7 (.reg .a)

end Sys2Proof

namespace Sys2Proof.Machine

/-! ## What `exec` is for each family -/

theorem exec_ldReg (r r' : Reg8) (s : State) :
    exec (Instr.ldReg r r') s = Machine.ldReg (Instr.ldReg r r').opcode r r' s := by
  cases r <;> cases r' <;> rfl

theorem exec_ldRegMem (r : Reg8) (s : State) :
    exec (Instr.ldRegMem r) s = Machine.ldRegMem (Instr.ldRegMem r).opcode r s := by
  cases r <;> rfl

theorem exec_ldMemReg (r : Reg8) (s : State) :
    exec (Instr.ldMemReg r) s = storeByte (Instr.ldMemReg r).opcode 1 s.regs.hl (s.regs.get8 r) s := by
  cases r <;> rfl

theorem exec_ldRegImm (r : Reg8) (n : Byte) (s : State) :
    exec (Instr.ldRegImm r n) s = Machine.ldRegImm (Instr.ldRegImm r n).opcode r n s := by
  cases r <;> rfl

theorem exec_ldPairImm (rr : Reg16) (nn : Word) (s : State) :
    exec (Instr.ldPairImm rr nn) s = Machine.ldPairImm (Instr.ldPairImm rr nn).opcode rr nn s := by
  cases rr <;> rfl

theorem exec_push (q : StackReg) (s : State) :
    exec (Instr.push q) s = pushReg (Instr.push q).opcode q s := by
  cases q <;> rfl

theorem exec_pop (q : StackReg) (s : State) :
    exec (Instr.pop q) s = popReg (Instr.pop q).opcode q s := by
  cases q <;> rfl

theorem exec_alu (f : AluOp) (x : Src8) (s : State) :
    exec (Instr.alu f x) s = aluSrc (Instr.alu f x).opcode f x s := by
  rcases x with r | _ <;> cases f <;> (try cases r) <;> rfl

theorem exec_aluImm (f : AluOp) (n : Byte) (s : State) :
    exec (Instr.aluImm f n) s = Machine.aluImm (Instr.aluImm f n).opcode f n s := by
  cases f <;> rfl

theorem exec_inc8 (x : Src8) (s : State) :
    exec (Instr.inc8 x) s = stepSrc (Instr.inc8 x).opcode Machine.inc8 x s := by
  rcases x with r | _ <;> (try cases r) <;> rfl

theorem exec_dec8 (x : Src8) (s : State) :
    exec (Instr.dec8 x) s = stepSrc (Instr.dec8 x).opcode Machine.dec8 x s := by
  rcases x with r | _ <;> (try cases r) <;> rfl

theorem exec_inc16 (rr : Reg16) (s : State) :
    exec (Instr.inc16 rr) s = stepPair (Instr.inc16 rr).opcode 1#16 rr s := by
  cases rr <;> rfl

theorem exec_dec16 (rr : Reg16) (s : State) :
    exec (Instr.dec16 rr) s = stepPair (Instr.dec16 rr).opcode (-1#16) rr s := by
  cases rr <;> rfl

theorem exec_addHl (rr : Reg16) (s : State) :
    exec (Instr.addHl rr) s = addHlPair (Instr.addHl rr).opcode rr s := by
  cases rr <;> rfl

theorem exec_rot (f : RotOp) (x : Src8) (s : State) :
    exec (Instr.rot f x) s = rotSrc (Instr.rot f x).opcode f x s := by
  rcases x with r | _ <;> cases f <;> (try cases r) <;> rfl

theorem exec_bit (b : Fin 8) (x : Src8) (s : State) :
    exec (Instr.bit b x) s = bitSrc (Instr.bit b x).opcode b x s := by
  rcases x with r | _ <;> (try cases r) <;> fin_cases b <;> rfl

theorem exec_res (b : Fin 8) (x : Src8) (s : State) :
    exec (Instr.res b x) s = changeBit (Instr.res b x).opcode (resBit b) x s := by
  rcases x with r | _ <;> (try cases r) <;> fin_cases b <;> rfl

theorem exec_set (b : Fin 8) (x : Src8) (s : State) :
    exec (Instr.set b x) s = changeBit (Instr.set b x).opcode (setBit b) x s := by
  rcases x with r | _ <;> (try cases r) <;> fin_cases b <;> rfl

theorem exec_jrCond (cc : Cond) (e : Int) (s : State) :
    exec (Instr.jrCond cc e) s = jumpRel (Instr.jrCond cc e).opcode (s.regs.cond cc) e s := by
  cases cc <;> rfl

theorem exec_jpCond (cc : Cond) (nn : Word) (s : State) :
    exec (Instr.jpCond cc nn) s = jumpAbs (Instr.jpCond cc nn).opcode (s.regs.cond cc) nn s := by
  cases cc <;> rfl

theorem exec_callCond (cc : Cond) (nn : Word) (s : State) :
    exec (Instr.callCond cc nn) s = callIf (Instr.callCond cc nn).opcode (s.regs.cond cc) nn s := by
  cases cc <;> rfl

theorem exec_retCond (cc : Cond) (s : State) :
    exec (Instr.retCond cc) s = retIf (Instr.retCond cc).opcode (s.regs.cond cc) s := by
  cases cc <;> rfl

theorem exec_rst (t : Fin 8) (s : State) :
    exec (Instr.rst t) s = restart (Instr.rst t).opcode t s := by
  fin_cases t <;> rfl

theorem exec_undefined (u : UndefinedByte) (s : State) :
    exec (Instr.undefined u) s = undefinedByte u.byte s := by
  cases u <;> rfl

end Sys2Proof.Machine
end

