-- ==== Sys2Proof/Laws/Ops.lean ====
section
/-! SUPPORT. The shared operations of the meanings, each with what it does when its accesses succeed and when one
fails. -/

namespace Sys2Proof.Machine

theorem withRead_ok {start now : State} {a : Word} {v : Byte} (h : now.busRead a = .ok v) (k : Byte → Exec) :
    withRead start now a k = k v := by simp only [withRead, h]

theorem withRead_error {start now : State} {a : Word} {f : Fault} (h : now.busRead a = .error f) (k : Byte → Exec) :
    withRead start now a k = .next (State.raise start now f) := by simp only [withRead, h]

theorem withWrite_ok {start now t : State} {a : Word} {v : Byte} (h : now.busWrite a v = .ok t) (k : State → Exec) :
    withWrite start now a v k = k t := by simp only [withWrite, h]

theorem withWrite_error {start now : State} {a : Word} {v : Byte} {f : Fault} (h : now.busWrite a v = .error f)
    (k : State → Exec) : withWrite start now a v k = .next (State.raise start now f) := by simp only [withWrite, h]

/-- A push whose two writes succeed (R150). -/
theorem push16_ok {start now t u : State} {v : Word} (h1 : now.busWrite (now.regs.sp - 1#16) (hiByte v) = .ok t)
    (h2 : t.busWrite (now.regs.sp - 2#16) (loByte v) = .ok u) (k : State → Exec) :
    push16 start now v k = k (u.setSp (now.regs.sp - 2#16)) := by
  simp only [push16, withWrite, h1, h2]

/-- A push whose first write fails. -/
theorem push16_error_high {start now : State} {v : Word} {f : Fault}
    (h1 : now.busWrite (now.regs.sp - 1#16) (hiByte v) = .error f) (k : State → Exec) :
    push16 start now v k = .next (State.raise start now f) := by
  simp only [push16, withWrite, h1]

/-- A push whose second write fails keeps the first (R150). -/
theorem push16_error_low {start now t : State} {v : Word} {f : Fault}
    (h1 : now.busWrite (now.regs.sp - 1#16) (hiByte v) = .ok t)
    (h2 : t.busWrite (now.regs.sp - 2#16) (loByte v) = .error f) (k : State → Exec) :
    push16 start now v k = .next (State.raise start t f) := by
  simp only [push16, withWrite, h1, h2]

/-- A pop whose two reads succeed (R151). -/
theorem pop16_ok {start now : State} {lo hi : Byte} (h1 : now.busRead now.regs.sp = .ok lo)
    (h2 : now.busRead (now.regs.sp + 1#16) = .ok hi) (k : Word → State → Exec) :
    pop16 start now k = k (joinBytes hi lo) (now.setSp (now.regs.sp + 2#16)) := by
  simp only [pop16, withRead, h1, h2]

/-- A pop whose first read fails. -/
theorem pop16_error_low {start now : State} {f : Fault} (h1 : now.busRead now.regs.sp = .error f)
    (k : Word → State → Exec) : pop16 start now k = .next (State.raise start now f) := by
  simp only [pop16, withRead, h1]

/-- A pop whose second read fails. -/
theorem pop16_error_high {start now : State} {lo : Byte} {f : Fault} (h1 : now.busRead now.regs.sp = .ok lo)
    (h2 : now.busRead (now.regs.sp + 1#16) = .error f) (k : Word → State → Exec) :
    pop16 start now k = .next (State.raise start now f) := by
  simp only [pop16, withRead, h1, h2]

/-- The registers of the state a fault leaves are the starting ones, whatever registers it was raised in. -/
@[simp] theorem raise_mapRegs (start now : State) (g : RegFile → RegFile) (f : Fault) :
    State.raise start (now.mapRegs g) f = State.raise start now f := rfl

@[simp] theorem raise_skip (start now : State) (n : Nat) (f : Fault) :
    State.raise start (now.skip n) f = State.raise start now f := rfl

end Sys2Proof.Machine
end

