-- ==== Sys2Proof/Laws/Tables.lean ====
section
/-! SUPPORT. The tables of Safety.lean for each family of instructions. -/

namespace Sys2Proof

open Machine

/-- The registers a pair is made of. -/
def Reg16.halves : Reg16 → List Reg8
  | .bc => [.b, .c]
  | .de => [.d, .e]
  | .hl => [.h, .l]
  | .sp => []

/-- The registers a stack pair is made of, besides the flags. -/
def StackReg.halves : StackReg → List Reg8
  | .bc => [.b, .c]
  | .de => [.d, .e]
  | .hl => [.h, .l]
  | .af => [.a]

/-- The register an 8-bit operand is, if it is one. -/
def Src8.dests : Src8 → List Reg8
  | .reg r => [r]
  | .mHL => []

/-- The address of an 8-bit operand in memory. -/
def Src8.addrs (x : Src8) (s : State) : List Word :=
  match x with
  | .reg _ => []
  | .mHL => [s.regs.hl]

namespace Instr

@[simp] theorem ldReg_halts (r r' : Reg8) : (Instr.ldReg r r').halts = false := by cases r <;> cases r' <;> rfl
@[simp] theorem ldReg_writes8 (r r' : Reg8) : (Instr.ldReg r r').writes8 = [r] := by cases r <;> cases r' <;> rfl
@[simp] theorem ldReg_writesSp (r r' : Reg8) : (Instr.ldReg r r').writesSp = false := by cases r <;> cases r' <;> rfl
@[simp] theorem ldReg_writesFlags (r r' : Reg8) : (Instr.ldReg r r').writesFlags = ⟨false, false, false, false⟩ := by cases r <;> cases r' <;> rfl
@[simp] theorem ldReg_taken (r r' : Reg8) (g : RegFile) : (Instr.ldReg r r').taken g = true := by cases r <;> cases r' <;> rfl
@[simp] theorem ldReg_storeAddrs (r r' : Reg8) (s : State) : (Instr.ldReg r r').storeAddrs s = [] := by cases r <;> cases r' <;> rfl
@[simp] theorem ldReg_loadAddrs (r r' : Reg8) (s : State) : (Instr.ldReg r r').loadAddrs s = [] := by cases r <;> cases r' <;> rfl

@[simp] theorem ldRegMem_halts (r : Reg8) : (Instr.ldRegMem r).halts = false := by cases r <;> rfl
@[simp] theorem ldRegMem_writes8 (r : Reg8) : (Instr.ldRegMem r).writes8 = [r] := by cases r <;> rfl
@[simp] theorem ldRegMem_writesSp (r : Reg8) : (Instr.ldRegMem r).writesSp = false := by cases r <;> rfl
@[simp] theorem ldRegMem_writesFlags (r : Reg8) : (Instr.ldRegMem r).writesFlags = ⟨false, false, false, false⟩ := by cases r <;> rfl
@[simp] theorem ldRegMem_taken (r : Reg8) (g : RegFile) : (Instr.ldRegMem r).taken g = true := by cases r <;> rfl
@[simp] theorem ldRegMem_storeAddrs (r : Reg8) (s : State) : (Instr.ldRegMem r).storeAddrs s = [] := by cases r <;> rfl
@[simp] theorem ldRegMem_loadAddrs (r : Reg8) (s : State) : (Instr.ldRegMem r).loadAddrs s = [s.regs.hl] := by cases r <;> rfl

@[simp] theorem ldMemReg_halts (r : Reg8) : (Instr.ldMemReg r).halts = false := by cases r <;> rfl
@[simp] theorem ldMemReg_writes8 (r : Reg8) : (Instr.ldMemReg r).writes8 = [] := by cases r <;> rfl
@[simp] theorem ldMemReg_writesSp (r : Reg8) : (Instr.ldMemReg r).writesSp = false := by cases r <;> rfl
@[simp] theorem ldMemReg_writesFlags (r : Reg8) : (Instr.ldMemReg r).writesFlags = ⟨false, false, false, false⟩ := by cases r <;> rfl
@[simp] theorem ldMemReg_taken (r : Reg8) (g : RegFile) : (Instr.ldMemReg r).taken g = true := by cases r <;> rfl
@[simp] theorem ldMemReg_storeAddrs (r : Reg8) (s : State) : (Instr.ldMemReg r).storeAddrs s = [s.regs.hl] := by cases r <;> rfl
@[simp] theorem ldMemReg_loadAddrs (r : Reg8) (s : State) : (Instr.ldMemReg r).loadAddrs s = [] := by cases r <;> rfl

@[simp] theorem ldRegImm_halts (r : Reg8) (n : Byte) : (Instr.ldRegImm r n).halts = false := by cases r <;> rfl
@[simp] theorem ldRegImm_writes8 (r : Reg8) (n : Byte) : (Instr.ldRegImm r n).writes8 = [r] := by cases r <;> rfl
@[simp] theorem ldRegImm_writesSp (r : Reg8) (n : Byte) : (Instr.ldRegImm r n).writesSp = false := by cases r <;> rfl
@[simp] theorem ldRegImm_writesFlags (r : Reg8) (n : Byte) : (Instr.ldRegImm r n).writesFlags = ⟨false, false, false, false⟩ := by cases r <;> rfl
@[simp] theorem ldRegImm_taken (r : Reg8) (n : Byte) (g : RegFile) : (Instr.ldRegImm r n).taken g = true := by cases r <;> rfl
@[simp] theorem ldRegImm_storeAddrs (r : Reg8) (n : Byte) (s : State) : (Instr.ldRegImm r n).storeAddrs s = [] := by cases r <;> rfl
@[simp] theorem ldRegImm_loadAddrs (r : Reg8) (n : Byte) (s : State) : (Instr.ldRegImm r n).loadAddrs s = [] := by cases r <;> rfl

@[simp] theorem ldPairImm_halts (rr : Reg16) (nn : Word) : (Instr.ldPairImm rr nn).halts = false := by cases rr <;> rfl
@[simp] theorem ldPairImm_writes8 (rr : Reg16) (nn : Word) : (Instr.ldPairImm rr nn).writes8 = rr.halves := by cases rr <;> rfl
@[simp] theorem ldPairImm_writesSp (rr : Reg16) (nn : Word) : (Instr.ldPairImm rr nn).writesSp = decide (rr = .sp) := by cases rr <;> rfl
@[simp] theorem ldPairImm_writesFlags (rr : Reg16) (nn : Word) : (Instr.ldPairImm rr nn).writesFlags = ⟨false, false, false, false⟩ := by cases rr <;> rfl
@[simp] theorem ldPairImm_taken (rr : Reg16) (nn : Word) (g : RegFile) : (Instr.ldPairImm rr nn).taken g = true := by cases rr <;> rfl
@[simp] theorem ldPairImm_storeAddrs (rr : Reg16) (nn : Word) (s : State) : (Instr.ldPairImm rr nn).storeAddrs s = [] := by cases rr <;> rfl
@[simp] theorem ldPairImm_loadAddrs (rr : Reg16) (nn : Word) (s : State) : (Instr.ldPairImm rr nn).loadAddrs s = [] := by cases rr <;> rfl

@[simp] theorem push_halts (q : StackReg) : (Instr.push q).halts = false := by cases q <;> rfl
@[simp] theorem push_writes8 (q : StackReg) : (Instr.push q).writes8 = [] := by cases q <;> rfl
@[simp] theorem push_writesSp (q : StackReg) : (Instr.push q).writesSp = true := by cases q <;> rfl
@[simp] theorem push_writesFlags (q : StackReg) : (Instr.push q).writesFlags = ⟨false, false, false, false⟩ := by cases q <;> rfl
@[simp] theorem push_taken (q : StackReg) (g : RegFile) : (Instr.push q).taken g = true := by cases q <;> rfl
@[simp] theorem push_storeAddrs (q : StackReg) (s : State) : (Instr.push q).storeAddrs s = [s.regs.sp - 1#16, s.regs.sp - 2#16] := by cases q <;> rfl
@[simp] theorem push_loadAddrs (q : StackReg) (s : State) : (Instr.push q).loadAddrs s = [] := by cases q <;> rfl

@[simp] theorem pop_halts (q : StackReg) : (Instr.pop q).halts = false := by cases q <;> rfl
@[simp] theorem pop_writes8 (q : StackReg) : (Instr.pop q).writes8 = q.halves := by cases q <;> rfl
@[simp] theorem pop_writesSp (q : StackReg) : (Instr.pop q).writesSp = true := by cases q <;> rfl
@[simp] theorem pop_writesFlags (q : StackReg) : (Instr.pop q).writesFlags = if q = .af then ⟨true, true, true, true⟩ else ⟨false, false, false, false⟩ := by cases q <;> rfl
@[simp] theorem pop_taken (q : StackReg) (g : RegFile) : (Instr.pop q).taken g = true := by cases q <;> rfl
@[simp] theorem pop_storeAddrs (q : StackReg) (s : State) : (Instr.pop q).storeAddrs s = [] := by cases q <;> rfl
@[simp] theorem pop_loadAddrs (q : StackReg) (s : State) : (Instr.pop q).loadAddrs s = [s.regs.sp, s.regs.sp + 1#16] := by cases q <;> rfl

@[simp] theorem alu_halts (f : AluOp) (x : Src8) : (Instr.alu f x).halts = false := by rcases x with r | _ <;> cases f <;> (try cases r) <;> rfl
@[simp] theorem alu_writes8 (f : AluOp) (x : Src8) : (Instr.alu f x).writes8 = if f = .cp then [] else [.a] := by rcases x with r | _ <;> cases f <;> (try cases r) <;> rfl
@[simp] theorem alu_writesSp (f : AluOp) (x : Src8) : (Instr.alu f x).writesSp = false := by rcases x with r | _ <;> cases f <;> (try cases r) <;> rfl
@[simp] theorem alu_writesFlags (f : AluOp) (x : Src8) : (Instr.alu f x).writesFlags = ⟨true, true, true, true⟩ := by rcases x with r | _ <;> cases f <;> (try cases r) <;> rfl
@[simp] theorem alu_taken (f : AluOp) (x : Src8) (g : RegFile) : (Instr.alu f x).taken g = true := by rcases x with r | _ <;> cases f <;> (try cases r) <;> rfl
@[simp] theorem alu_storeAddrs (f : AluOp) (x : Src8) (s : State) : (Instr.alu f x).storeAddrs s = [] := by rcases x with r | _ <;> cases f <;> (try cases r) <;> rfl
@[simp] theorem alu_loadAddrs (f : AluOp) (x : Src8) (s : State) : (Instr.alu f x).loadAddrs s = x.addrs s := by rcases x with r | _ <;> cases f <;> (try cases r) <;> rfl

@[simp] theorem aluImm_halts (f : AluOp) (n : Byte) : (Instr.aluImm f n).halts = false := by cases f <;> rfl
@[simp] theorem aluImm_writes8 (f : AluOp) (n : Byte) : (Instr.aluImm f n).writes8 = if f = .cp then [] else [.a] := by cases f <;> rfl
@[simp] theorem aluImm_writesSp (f : AluOp) (n : Byte) : (Instr.aluImm f n).writesSp = false := by cases f <;> rfl
@[simp] theorem aluImm_writesFlags (f : AluOp) (n : Byte) : (Instr.aluImm f n).writesFlags = ⟨true, true, true, true⟩ := by cases f <;> rfl
@[simp] theorem aluImm_taken (f : AluOp) (n : Byte) (g : RegFile) : (Instr.aluImm f n).taken g = true := by cases f <;> rfl
@[simp] theorem aluImm_storeAddrs (f : AluOp) (n : Byte) (s : State) : (Instr.aluImm f n).storeAddrs s = [] := by cases f <;> rfl
@[simp] theorem aluImm_loadAddrs (f : AluOp) (n : Byte) (s : State) : (Instr.aluImm f n).loadAddrs s = [] := by cases f <;> rfl

@[simp] theorem inc8_halts (x : Src8) : (Instr.inc8 x).halts = false := by rcases x with r | _ <;> (try cases r) <;> rfl
@[simp] theorem inc8_writes8 (x : Src8) : (Instr.inc8 x).writes8 = x.dests := by rcases x with r | _ <;> (try cases r) <;> rfl
@[simp] theorem inc8_writesSp (x : Src8) : (Instr.inc8 x).writesSp = false := by rcases x with r | _ <;> (try cases r) <;> rfl
@[simp] theorem inc8_writesFlags (x : Src8) : (Instr.inc8 x).writesFlags = ⟨true, true, true, false⟩ := by rcases x with r | _ <;> (try cases r) <;> rfl
@[simp] theorem inc8_taken (x : Src8) (g : RegFile) : (Instr.inc8 x).taken g = true := by rcases x with r | _ <;> (try cases r) <;> rfl
@[simp] theorem inc8_storeAddrs (x : Src8) (s : State) : (Instr.inc8 x).storeAddrs s = x.addrs s := by rcases x with r | _ <;> (try cases r) <;> rfl
@[simp] theorem inc8_loadAddrs (x : Src8) (s : State) : (Instr.inc8 x).loadAddrs s = x.addrs s := by rcases x with r | _ <;> (try cases r) <;> rfl

@[simp] theorem dec8_halts (x : Src8) : (Instr.dec8 x).halts = false := by rcases x with r | _ <;> (try cases r) <;> rfl
@[simp] theorem dec8_writes8 (x : Src8) : (Instr.dec8 x).writes8 = x.dests := by rcases x with r | _ <;> (try cases r) <;> rfl
@[simp] theorem dec8_writesSp (x : Src8) : (Instr.dec8 x).writesSp = false := by rcases x with r | _ <;> (try cases r) <;> rfl
@[simp] theorem dec8_writesFlags (x : Src8) : (Instr.dec8 x).writesFlags = ⟨true, true, true, false⟩ := by rcases x with r | _ <;> (try cases r) <;> rfl
@[simp] theorem dec8_taken (x : Src8) (g : RegFile) : (Instr.dec8 x).taken g = true := by rcases x with r | _ <;> (try cases r) <;> rfl
@[simp] theorem dec8_storeAddrs (x : Src8) (s : State) : (Instr.dec8 x).storeAddrs s = x.addrs s := by rcases x with r | _ <;> (try cases r) <;> rfl
@[simp] theorem dec8_loadAddrs (x : Src8) (s : State) : (Instr.dec8 x).loadAddrs s = x.addrs s := by rcases x with r | _ <;> (try cases r) <;> rfl

@[simp] theorem inc16_halts (rr : Reg16) : (Instr.inc16 rr).halts = false := by cases rr <;> rfl
@[simp] theorem inc16_writes8 (rr : Reg16) : (Instr.inc16 rr).writes8 = rr.halves := by cases rr <;> rfl
@[simp] theorem inc16_writesSp (rr : Reg16) : (Instr.inc16 rr).writesSp = decide (rr = .sp) := by cases rr <;> rfl
@[simp] theorem inc16_writesFlags (rr : Reg16) : (Instr.inc16 rr).writesFlags = ⟨false, false, false, false⟩ := by cases rr <;> rfl
@[simp] theorem inc16_taken (rr : Reg16) (g : RegFile) : (Instr.inc16 rr).taken g = true := by cases rr <;> rfl
@[simp] theorem inc16_storeAddrs (rr : Reg16) (s : State) : (Instr.inc16 rr).storeAddrs s = [] := by cases rr <;> rfl
@[simp] theorem inc16_loadAddrs (rr : Reg16) (s : State) : (Instr.inc16 rr).loadAddrs s = [] := by cases rr <;> rfl

@[simp] theorem dec16_halts (rr : Reg16) : (Instr.dec16 rr).halts = false := by cases rr <;> rfl
@[simp] theorem dec16_writes8 (rr : Reg16) : (Instr.dec16 rr).writes8 = rr.halves := by cases rr <;> rfl
@[simp] theorem dec16_writesSp (rr : Reg16) : (Instr.dec16 rr).writesSp = decide (rr = .sp) := by cases rr <;> rfl
@[simp] theorem dec16_writesFlags (rr : Reg16) : (Instr.dec16 rr).writesFlags = ⟨false, false, false, false⟩ := by cases rr <;> rfl
@[simp] theorem dec16_taken (rr : Reg16) (g : RegFile) : (Instr.dec16 rr).taken g = true := by cases rr <;> rfl
@[simp] theorem dec16_storeAddrs (rr : Reg16) (s : State) : (Instr.dec16 rr).storeAddrs s = [] := by cases rr <;> rfl
@[simp] theorem dec16_loadAddrs (rr : Reg16) (s : State) : (Instr.dec16 rr).loadAddrs s = [] := by cases rr <;> rfl

@[simp] theorem addHl_halts (rr : Reg16) : (Instr.addHl rr).halts = false := by cases rr <;> rfl
@[simp] theorem addHl_writes8 (rr : Reg16) : (Instr.addHl rr).writes8 = [.h, .l] := by cases rr <;> rfl
@[simp] theorem addHl_writesSp (rr : Reg16) : (Instr.addHl rr).writesSp = false := by cases rr <;> rfl
@[simp] theorem addHl_writesFlags (rr : Reg16) : (Instr.addHl rr).writesFlags = ⟨false, true, true, true⟩ := by cases rr <;> rfl
@[simp] theorem addHl_taken (rr : Reg16) (g : RegFile) : (Instr.addHl rr).taken g = true := by cases rr <;> rfl
@[simp] theorem addHl_storeAddrs (rr : Reg16) (s : State) : (Instr.addHl rr).storeAddrs s = [] := by cases rr <;> rfl
@[simp] theorem addHl_loadAddrs (rr : Reg16) (s : State) : (Instr.addHl rr).loadAddrs s = [] := by cases rr <;> rfl

@[simp] theorem rot_halts (f : RotOp) (x : Src8) : (Instr.rot f x).halts = false := by rcases x with r | _ <;> cases f <;> (try cases r) <;> rfl
@[simp] theorem rot_writes8 (f : RotOp) (x : Src8) : (Instr.rot f x).writes8 = x.dests := by rcases x with r | _ <;> cases f <;> (try cases r) <;> rfl
@[simp] theorem rot_writesSp (f : RotOp) (x : Src8) : (Instr.rot f x).writesSp = false := by rcases x with r | _ <;> cases f <;> (try cases r) <;> rfl
@[simp] theorem rot_writesFlags (f : RotOp) (x : Src8) : (Instr.rot f x).writesFlags = ⟨true, true, true, true⟩ := by rcases x with r | _ <;> cases f <;> (try cases r) <;> rfl
@[simp] theorem rot_taken (f : RotOp) (x : Src8) (g : RegFile) : (Instr.rot f x).taken g = true := by rcases x with r | _ <;> cases f <;> (try cases r) <;> rfl
@[simp] theorem rot_storeAddrs (f : RotOp) (x : Src8) (s : State) : (Instr.rot f x).storeAddrs s = x.addrs s := by rcases x with r | _ <;> cases f <;> (try cases r) <;> rfl
@[simp] theorem rot_loadAddrs (f : RotOp) (x : Src8) (s : State) : (Instr.rot f x).loadAddrs s = x.addrs s := by rcases x with r | _ <;> cases f <;> (try cases r) <;> rfl

@[simp] theorem bit_halts (b : Fin 8) (x : Src8) : (Instr.bit b x).halts = false := by rcases x with r | _ <;> (try cases r) <;> fin_cases b <;> rfl
@[simp] theorem bit_writes8 (b : Fin 8) (x : Src8) : (Instr.bit b x).writes8 = [] := by rcases x with r | _ <;> (try cases r) <;> fin_cases b <;> rfl
@[simp] theorem bit_writesSp (b : Fin 8) (x : Src8) : (Instr.bit b x).writesSp = false := by rcases x with r | _ <;> (try cases r) <;> fin_cases b <;> rfl
@[simp] theorem bit_writesFlags (b : Fin 8) (x : Src8) : (Instr.bit b x).writesFlags = ⟨true, true, true, false⟩ := by rcases x with r | _ <;> (try cases r) <;> fin_cases b <;> rfl
@[simp] theorem bit_taken (b : Fin 8) (x : Src8) (g : RegFile) : (Instr.bit b x).taken g = true := by rcases x with r | _ <;> (try cases r) <;> fin_cases b <;> rfl
@[simp] theorem bit_storeAddrs (b : Fin 8) (x : Src8) (s : State) : (Instr.bit b x).storeAddrs s = [] := by rcases x with r | _ <;> (try cases r) <;> fin_cases b <;> rfl
@[simp] theorem bit_loadAddrs (b : Fin 8) (x : Src8) (s : State) : (Instr.bit b x).loadAddrs s = x.addrs s := by rcases x with r | _ <;> (try cases r) <;> fin_cases b <;> rfl

@[simp] theorem res_halts (b : Fin 8) (x : Src8) : (Instr.res b x).halts = false := by rcases x with r | _ <;> (try cases r) <;> fin_cases b <;> rfl
@[simp] theorem res_writes8 (b : Fin 8) (x : Src8) : (Instr.res b x).writes8 = x.dests := by rcases x with r | _ <;> (try cases r) <;> fin_cases b <;> rfl
@[simp] theorem res_writesSp (b : Fin 8) (x : Src8) : (Instr.res b x).writesSp = false := by rcases x with r | _ <;> (try cases r) <;> fin_cases b <;> rfl
@[simp] theorem res_writesFlags (b : Fin 8) (x : Src8) : (Instr.res b x).writesFlags = ⟨false, false, false, false⟩ := by rcases x with r | _ <;> (try cases r) <;> fin_cases b <;> rfl
@[simp] theorem res_taken (b : Fin 8) (x : Src8) (g : RegFile) : (Instr.res b x).taken g = true := by rcases x with r | _ <;> (try cases r) <;> fin_cases b <;> rfl
@[simp] theorem res_storeAddrs (b : Fin 8) (x : Src8) (s : State) : (Instr.res b x).storeAddrs s = x.addrs s := by rcases x with r | _ <;> (try cases r) <;> fin_cases b <;> rfl
@[simp] theorem res_loadAddrs (b : Fin 8) (x : Src8) (s : State) : (Instr.res b x).loadAddrs s = x.addrs s := by rcases x with r | _ <;> (try cases r) <;> fin_cases b <;> rfl

@[simp] theorem set_halts (b : Fin 8) (x : Src8) : (Instr.set b x).halts = false := by rcases x with r | _ <;> (try cases r) <;> fin_cases b <;> rfl
@[simp] theorem set_writes8 (b : Fin 8) (x : Src8) : (Instr.set b x).writes8 = x.dests := by rcases x with r | _ <;> (try cases r) <;> fin_cases b <;> rfl
@[simp] theorem set_writesSp (b : Fin 8) (x : Src8) : (Instr.set b x).writesSp = false := by rcases x with r | _ <;> (try cases r) <;> fin_cases b <;> rfl
@[simp] theorem set_writesFlags (b : Fin 8) (x : Src8) : (Instr.set b x).writesFlags = ⟨false, false, false, false⟩ := by rcases x with r | _ <;> (try cases r) <;> fin_cases b <;> rfl
@[simp] theorem set_taken (b : Fin 8) (x : Src8) (g : RegFile) : (Instr.set b x).taken g = true := by rcases x with r | _ <;> (try cases r) <;> fin_cases b <;> rfl
@[simp] theorem set_storeAddrs (b : Fin 8) (x : Src8) (s : State) : (Instr.set b x).storeAddrs s = x.addrs s := by rcases x with r | _ <;> (try cases r) <;> fin_cases b <;> rfl
@[simp] theorem set_loadAddrs (b : Fin 8) (x : Src8) (s : State) : (Instr.set b x).loadAddrs s = x.addrs s := by rcases x with r | _ <;> (try cases r) <;> fin_cases b <;> rfl

@[simp] theorem jrCond_halts (cc : Cond) (e : Int) : (Instr.jrCond cc e).halts = false := by cases cc <;> rfl
@[simp] theorem jrCond_writes8 (cc : Cond) (e : Int) : (Instr.jrCond cc e).writes8 = [] := by cases cc <;> rfl
@[simp] theorem jrCond_writesSp (cc : Cond) (e : Int) : (Instr.jrCond cc e).writesSp = false := by cases cc <;> rfl
@[simp] theorem jrCond_writesFlags (cc : Cond) (e : Int) : (Instr.jrCond cc e).writesFlags = ⟨false, false, false, false⟩ := by cases cc <;> rfl
@[simp] theorem jrCond_taken (cc : Cond) (e : Int) (g : RegFile) : (Instr.jrCond cc e).taken g = g.cond cc := by cases cc <;> rfl
@[simp] theorem jrCond_storeAddrs (cc : Cond) (e : Int) (s : State) : (Instr.jrCond cc e).storeAddrs s = [] := by cases cc <;> rfl
@[simp] theorem jrCond_loadAddrs (cc : Cond) (e : Int) (s : State) : (Instr.jrCond cc e).loadAddrs s = [] := by cases cc <;> rfl

@[simp] theorem jpCond_halts (cc : Cond) (nn : Word) : (Instr.jpCond cc nn).halts = false := by cases cc <;> rfl
@[simp] theorem jpCond_writes8 (cc : Cond) (nn : Word) : (Instr.jpCond cc nn).writes8 = [] := by cases cc <;> rfl
@[simp] theorem jpCond_writesSp (cc : Cond) (nn : Word) : (Instr.jpCond cc nn).writesSp = false := by cases cc <;> rfl
@[simp] theorem jpCond_writesFlags (cc : Cond) (nn : Word) : (Instr.jpCond cc nn).writesFlags = ⟨false, false, false, false⟩ := by cases cc <;> rfl
@[simp] theorem jpCond_taken (cc : Cond) (nn : Word) (g : RegFile) : (Instr.jpCond cc nn).taken g = g.cond cc := by cases cc <;> rfl
@[simp] theorem jpCond_storeAddrs (cc : Cond) (nn : Word) (s : State) : (Instr.jpCond cc nn).storeAddrs s = [] := by cases cc <;> rfl
@[simp] theorem jpCond_loadAddrs (cc : Cond) (nn : Word) (s : State) : (Instr.jpCond cc nn).loadAddrs s = [] := by cases cc <;> rfl

@[simp] theorem callCond_halts (cc : Cond) (nn : Word) : (Instr.callCond cc nn).halts = false := by cases cc <;> rfl
@[simp] theorem callCond_writes8 (cc : Cond) (nn : Word) : (Instr.callCond cc nn).writes8 = [] := by cases cc <;> rfl
@[simp] theorem callCond_writesSp (cc : Cond) (nn : Word) : (Instr.callCond cc nn).writesSp = true := by cases cc <;> rfl
@[simp] theorem callCond_writesFlags (cc : Cond) (nn : Word) : (Instr.callCond cc nn).writesFlags = ⟨false, false, false, false⟩ := by cases cc <;> rfl
@[simp] theorem callCond_taken (cc : Cond) (nn : Word) (g : RegFile) : (Instr.callCond cc nn).taken g = g.cond cc := by cases cc <;> rfl
@[simp] theorem callCond_storeAddrs (cc : Cond) (nn : Word) (s : State) : (Instr.callCond cc nn).storeAddrs s = if s.regs.cond cc then [s.regs.sp - 1#16, s.regs.sp - 2#16] else [] := by cases cc <;> rfl
@[simp] theorem callCond_loadAddrs (cc : Cond) (nn : Word) (s : State) : (Instr.callCond cc nn).loadAddrs s = [] := by cases cc <;> rfl

@[simp] theorem retCond_halts (cc : Cond) : (Instr.retCond cc).halts = false := by cases cc <;> rfl
@[simp] theorem retCond_writes8 (cc : Cond) : (Instr.retCond cc).writes8 = [] := by cases cc <;> rfl
@[simp] theorem retCond_writesSp (cc : Cond) : (Instr.retCond cc).writesSp = true := by cases cc <;> rfl
@[simp] theorem retCond_writesFlags (cc : Cond) : (Instr.retCond cc).writesFlags = ⟨false, false, false, false⟩ := by cases cc <;> rfl
@[simp] theorem retCond_taken (cc : Cond) (g : RegFile) : (Instr.retCond cc).taken g = g.cond cc := by cases cc <;> rfl
@[simp] theorem retCond_storeAddrs (cc : Cond) (s : State) : (Instr.retCond cc).storeAddrs s = [] := by cases cc <;> rfl
@[simp] theorem retCond_loadAddrs (cc : Cond) (s : State) : (Instr.retCond cc).loadAddrs s = if s.regs.cond cc then [s.regs.sp, s.regs.sp + 1#16] else [] := by cases cc <;> rfl

@[simp] theorem rst_halts (t : Fin 8) : (Instr.rst t).halts = false := by fin_cases t <;> rfl
@[simp] theorem rst_writes8 (t : Fin 8) : (Instr.rst t).writes8 = [] := by fin_cases t <;> rfl
@[simp] theorem rst_writesSp (t : Fin 8) : (Instr.rst t).writesSp = true := by fin_cases t <;> rfl
@[simp] theorem rst_writesFlags (t : Fin 8) : (Instr.rst t).writesFlags = ⟨false, false, false, false⟩ := by fin_cases t <;> rfl
@[simp] theorem rst_taken (t : Fin 8) (g : RegFile) : (Instr.rst t).taken g = true := by fin_cases t <;> rfl
@[simp] theorem rst_storeAddrs (t : Fin 8) (s : State) : (Instr.rst t).storeAddrs s = [s.regs.sp - 1#16, s.regs.sp - 2#16] := by fin_cases t <;> rfl
@[simp] theorem rst_loadAddrs (t : Fin 8) (s : State) : (Instr.rst t).loadAddrs s = [] := by fin_cases t <;> rfl

@[simp] theorem undefined_halts (u : UndefinedByte) : (Instr.undefined u).halts = false := by cases u <;> rfl
@[simp] theorem undefined_writes8 (u : UndefinedByte) : (Instr.undefined u).writes8 = [] := by cases u <;> rfl
@[simp] theorem undefined_writesSp (u : UndefinedByte) : (Instr.undefined u).writesSp = false := by cases u <;> rfl
@[simp] theorem undefined_writesFlags (u : UndefinedByte) : (Instr.undefined u).writesFlags = ⟨false, false, false, false⟩ := by cases u <;> rfl
@[simp] theorem undefined_taken (u : UndefinedByte) (g : RegFile) : (Instr.undefined u).taken g = true := by cases u <;> rfl
@[simp] theorem undefined_storeAddrs (u : UndefinedByte) (s : State) : (Instr.undefined u).storeAddrs s = [] := by cases u <;> rfl
@[simp] theorem undefined_loadAddrs (u : UndefinedByte) (s : State) : (Instr.undefined u).loadAddrs s = [] := by cases u <;> rfl

end Instr

end Sys2Proof
end

