-- ==== Sys2Proof/Laws/Registers.lean ====
section
/-! SUPPORT. Reading a register after a write of a register, a pair, a stack pair or the flags. -/

namespace Sys2Proof.Machine.RegFile

@[simp] theorem get8_set8 (g : RegFile) (r r' : Reg8) (v : Byte) :
    (g.set8 r v).get8 r' = if r' = r then v else g.get8 r' := by cases r <;> cases r' <;> rfl

/-- A pair reads as it was written (R23). -/
@[simp] theorem get16_set16 (g : RegFile) (rr : Reg16) (v : Word) : (g.set16 rr v).get16 rr = v := by
  cases rr <;> simp [set16, get16, bc, de, hl]

/-- The two halves of a pair are its registers (R23). -/
theorem get8_set16_other (g : RegFile) (rr : Reg16) (v : Word) {r : Reg8} (h : r ∉ rr.halves) :
    (g.set16 rr v).get8 r = g.get8 r := by
  cases rr <;> cases r <;> first | rfl | simp [Reg16.halves] at h

theorem get8_setStack_other (g : RegFile) (q : StackReg) (v : Word) {r : Reg8} (h : r ∉ q.halves) :
    (g.setStack q v).get8 r = g.get8 r := by
  cases q <;> cases r <;> first | rfl | simp [StackReg.halves] at h

theorem set16_sp_other (g : RegFile) (rr : Reg16) (v : Word) (h : rr ≠ .sp) : (g.set16 rr v).sp = g.sp := by
  cases rr <;> first | rfl | exact absurd rfl h

/-- The stack pairs other than AF read as they were written (R23). -/
theorem getStack_setStack (g : RegFile) (q : StackReg) (v : Word) (h : q ≠ .af) : (g.setStack q v).getStack q = v := by
  cases q <;> first | exact absurd rfl h | simp [setStack, getStack, bc, de, hl]

@[simp] theorem set8_zf (g : RegFile) (r : Reg8) (v : Byte) : (g.set8 r v).zf = g.zf := by cases r <;> rfl
@[simp] theorem set16_zf (g : RegFile) (rr : Reg16) (v : Word) : (g.set16 rr v).zf = g.zf := by cases rr <;> rfl
theorem setStack_zf (g : RegFile) (q : StackReg) (v : Word) (h : q ≠ .af) : (g.setStack q v).zf = g.zf := by
  cases q <;> first | rfl | exact absurd rfl h
@[simp] theorem set8_nf (g : RegFile) (r : Reg8) (v : Byte) : (g.set8 r v).nf = g.nf := by cases r <;> rfl
@[simp] theorem set16_nf (g : RegFile) (rr : Reg16) (v : Word) : (g.set16 rr v).nf = g.nf := by cases rr <;> rfl
theorem setStack_nf (g : RegFile) (q : StackReg) (v : Word) (h : q ≠ .af) : (g.setStack q v).nf = g.nf := by
  cases q <;> first | rfl | exact absurd rfl h
@[simp] theorem set8_hf (g : RegFile) (r : Reg8) (v : Byte) : (g.set8 r v).hf = g.hf := by cases r <;> rfl
@[simp] theorem set16_hf (g : RegFile) (rr : Reg16) (v : Word) : (g.set16 rr v).hf = g.hf := by cases rr <;> rfl
theorem setStack_hf (g : RegFile) (q : StackReg) (v : Word) (h : q ≠ .af) : (g.setStack q v).hf = g.hf := by
  cases q <;> first | rfl | exact absurd rfl h
@[simp] theorem set8_cf (g : RegFile) (r : Reg8) (v : Byte) : (g.set8 r v).cf = g.cf := by cases r <;> rfl
@[simp] theorem set16_cf (g : RegFile) (rr : Reg16) (v : Word) : (g.set16 rr v).cf = g.cf := by cases rr <;> rfl
theorem setStack_cf (g : RegFile) (q : StackReg) (v : Word) (h : q ≠ .af) : (g.setStack q v).cf = g.cf := by
  cases q <;> first | rfl | exact absurd rfl h
@[simp] theorem set8_sp (g : RegFile) (r : Reg8) (v : Byte) : (g.set8 r v).sp = g.sp := by cases r <;> rfl
@[simp] theorem setStack_sp (g : RegFile) (q : StackReg) (v : Word) : (g.setStack q v).sp = g.sp := by cases q <;> rfl
@[simp] theorem set8_pc (g : RegFile) (r : Reg8) (v : Byte) : (g.set8 r v).pc = g.pc := by cases r <;> rfl
@[simp] theorem setStack_pc (g : RegFile) (q : StackReg) (v : Word) : (g.setStack q v).pc = g.pc := by cases q <;> rfl
@[simp] theorem set16_pc (g : RegFile) (rr : Reg16) (v : Word) : (g.set16 rr v).pc = g.pc := by cases rr <;> rfl

@[simp] theorem get8_setFlags (g : RegFile) (z n h c : Bool) (r : Reg8) : (g.setFlags z n h c).get8 r = g.get8 r := by
  cases r <;> rfl
@[simp] theorem get8_with_pc (g : RegFile) (v : Word) (r : Reg8) : RegFile.get8 { g with pc := v } r = g.get8 r := by
  cases r <;> rfl
@[simp] theorem get8_with_sp (g : RegFile) (v : Word) (r : Reg8) : RegFile.get8 { g with sp := v } r = g.get8 r := by
  cases r <;> rfl
@[simp] theorem get16_with_pc (g : RegFile) (v : Word) (rr : Reg16) : RegFile.get16 { g with pc := v } rr = g.get16 rr := by
  cases rr <;> rfl
@[simp] theorem setFlags_sp (g : RegFile) (z n h c : Bool) : (g.setFlags z n h c).sp = g.sp := rfl
@[simp] theorem setFlags_pc (g : RegFile) (z n h c : Bool) : (g.setFlags z n h c).pc = g.pc := rfl
@[simp] theorem setFlags_zf (g : RegFile) (z n h c : Bool) : (g.setFlags z n h c).zf = z := rfl
@[simp] theorem setFlags_nf (g : RegFile) (z n h c : Bool) : (g.setFlags z n h c).nf = n := rfl
@[simp] theorem setFlags_hf (g : RegFile) (z n h c : Bool) : (g.setFlags z n h c).hf = h := rfl
@[simp] theorem setFlags_cf (g : RegFile) (z n h c : Bool) : (g.setFlags z n h c).cf = c := rfl

end Sys2Proof.Machine.RegFile
end

