-- ==== Sys2Proof/Laws/Exec.lean ====
section
/-! SUPPORT. Everything an instruction can do, said once: `exec` always answers a next state, which is a completed
instruction, a halt, or a taken fault, after stores to the instruction's own addresses. -/

namespace Sys2Proof.Machine

/-- The decoder's last row is the set of unmapped addresses (R53). -/
theorem regionOf_unmapped (b : Bool) (a : Word) : regionOf b a = .unmapped ↔ unmappedAddr a = true := by
  have hb := regionOf_bounds b a
  have h := a.isLt
  constructor
  · intro hu
    rw [hu] at hb
    simp [unmappedAddr]
    omega
  · intro hu
    simp [unmappedAddr] at hu
    cases hr : regionOf b a <;> rw [hr] at hb <;> simp only at hb <;> first | rfl | omega

/-- `u` is `s` after successful writes at the first few addresses of a list, in order. -/
inductive Wrote : List Word → State → State → Prop
  | stop (as : List Word) (s : State) : Wrote as s s
  | write {a : Word} {as : List Word} {v : Byte} {s u t : State} (h : s.busWrite a v = .ok u) (rest : Wrote as u t) :
      Wrote (a :: as) s t

/-- The registers and flags an instruction may change (R21, R26, R28). -/
structure RegFrame (i : Instr) (g g' : RegFile) : Prop where
  r8 : ∀ r, r ∉ i.writes8 → g'.get8 r = g.get8 r
  sp : i.writesSp = false → g'.sp = g.sp
  z : i.writesFlags.z = false → g'.zf = g.zf
  n : i.writesFlags.n = false → g'.nf = g.nf
  h : i.writesFlags.h = false → g'.hf = g.hf
  c : i.writesFlags.c = false → g'.cf = g.cf

/-- The faults an instruction can raise (R361). -/
inductive FaultOf (i : Instr) (s : State) : Fault → Prop
  | decode (u : UndefinedByte) (h : i = Instr.undefined u) : FaultOf i s (.decodeError u.byte false s.regs.pc)
  | read (a : Word) (h : a ∈ i.loadAddrs s) (hu : unmappedAddr a = true) : FaultOf i s (.busError a .read)
  | write (a : Word) (h : a ∈ i.storeAddrs s) (hu : unmappedAddr a = true) : FaultOf i s (.busError a .write)
  | readOnly (a : Word) (h : a ∈ i.storeAddrs s) (hu : a.toNat < 0x4000) : FaultOf i s (.readOnlyViolation a)

/-- The state an instruction can lead to. -/
inductive Effect (i : Instr) (s : State) : State → Prop
  | fault (u : State) (f : Fault) (w : Wrote (i.storeAddrs s) s u) (h : FaultOf i s f) : Effect i s (State.raise s u f)
  | done (u : State) (g : RegFile) (b : Bool) (p : Option ImePend) (w : Wrote (i.storeAddrs s) s u)
      (hg : RegFrame i s.regs g) (hb : b = s.ime ∨ (i = .reti ∧ b = true))
      (hp : p = s.imePend ∨ (i = .di ∧ p = some ⟨.two, false⟩) ∨ (i = .ei ∧ p = some ⟨.two, true⟩))
      (hh : i.halts = false) :
      Effect i s (State.retire { u with regs := g, ime := b, imePend := p } (instrCost s.cfg i.opcode (i.taken s.regs)))
  | halt (g : RegFile) (hg : RegFrame i s.regs g) (hh : i.halts = true) :
      Effect i s { State.retire { s with regs := g } (instrCost s.cfg i.opcode (i.taken s.regs)) with status := .halted }

/-- An answer that is a next state of an instruction. -/
def Ends (i : Instr) (s : State) (r : Exec) : Prop := ∃ t, r = .next t ∧ Effect i s t

theorem Wrote.frame {as : List Word} {s u : State} (w : Wrote as s u) :
    u.regs = s.regs ∧ u.ime = s.ime ∧ u.imePend = s.imePend ∧ u.cyclesTotal = s.cyclesTotal ∧ u.status = s.status ∧
      u.cfg = s.cfg := by
  induction w with
  | stop => simp
  | write h _ ih =>
    have hw := busWrite_ok h
    obtain ⟨h1, h2, h3, h4, h5, h6⟩ := ih
    exact ⟨h1.trans hw.regs, h2.trans hw.ime, h3.trans hw.imePend, h4.trans hw.cyclesTotal, h5.trans hw.status,
      h6.trans hw.cfg⟩

/-- The cost an instruction charges on the path it takes. -/
def chargeOf (i : Instr) (s : State) : Nat := instrCost s.cfg i.opcode (i.taken s.regs)

theorem busWrite_mapRegs_ok {s t : State} {f : RegFile → RegFile} {a : Word} {v : Byte}
    (h : (s.mapRegs f).busWrite a v = .ok t) : ∃ u, s.busWrite a v = .ok u ∧ t = u.mapRegs f := by
  rw [busWrite_mapRegs] at h
  cases hs : s.busWrite a v with
  | error e => rw [hs] at h; cases h
  | ok u => rw [hs] at h; cases h; exact ⟨u, rfl, rfl⟩

theorem busWrite_mapRegs_error {s : State} {f : RegFile → RegFile} {a : Word} {v : Byte} {e : Fault}
    (h : (s.mapRegs f).busWrite a v = .error e) : s.busWrite a v = .error e := by
  rw [busWrite_mapRegs] at h
  cases hs : s.busWrite a v with
  | error e' => rw [hs] at h; cases h; rfl
  | ok u => rw [hs] at h; cases h

section ends

variable {i : Instr} {s : State}

theorem ends_done (u : State) (g : RegFile) (w : Wrote (i.storeAddrs s) s u) (hg : RegFrame i s.regs g)
    (hh : i.halts = false) {c : Nat} (hc : c = chargeOf i s) : Ends i s (complete { u with regs := g } c) := by
  obtain ⟨-, h2, h3, -⟩ := w.frame
  refine ⟨_, rfl, ?_⟩
  have := Effect.done u g s.ime s.imePend w hg (.inl rfl) (.inl rfl) hh
  rw [hc]
  simpa [chargeOf, ← h2, ← h3] using this

/-- A completed instruction that stores nothing. -/
theorem ends_regs (g : RegFile) (hg : RegFrame i s.regs g) (hh : i.halts = false) {c : Nat} (hc : c = chargeOf i s) :
    Ends i s (complete { s with regs := g } c) := ends_done s g (.stop _ _) hg hh hc

theorem ends_fault (u : State) (f : Fault) (w : Wrote (i.storeAddrs s) s u) (h : FaultOf i s f) :
    Ends i s (.next (State.raise s u f)) := ⟨_, rfl, .fault u f w h⟩

/-- A read of an instruction that has stored nothing yet. -/
theorem ends_read {a : Word} {f : RegFile → RegFile} {k : Byte → Exec} (ha : a ∈ i.loadAddrs s)
    (hk : ∀ v, s.busRead a = .ok v → Ends i s (k v)) : Ends i s (withRead s (s.mapRegs f) a k) := by
  cases h : s.busRead a with
  | ok v =>
    rw [withRead_ok (v := v) (by simpa using h)]
    exact hk v h
  | error e =>
    rw [withRead_error (f := e) (by simpa using h), raise_mapRegs]
    obtain ⟨rfl, hu⟩ := busRead_error h
    exact ends_fault s _ (.stop _ _) (.read a ha ((regionOf_unmapped _ _).1 hu))

theorem faultOf_write {a : Word} {v : Byte} {u : State} {e : Fault} (ha : a ∈ i.storeAddrs s)
    (h : u.busWrite a v = .error e) : FaultOf i s e := by
  obtain ⟨rfl, hu⟩ | ⟨rfl, hu⟩ := busWrite_error h
  · exact .readOnly a ha hu
  · exact .write a ha ((regionOf_unmapped _ _).1 hu)

/-- The one store of an instruction. -/
theorem ends_write {a : Word} {v : Byte} {f : RegFile → RegFile} {k : State → Exec} (ha : i.storeAddrs s = [a])
    (hk : ∀ u, Wrote (i.storeAddrs s) s u → u.regs = s.regs → Ends i s (k (u.mapRegs f))) :
    Ends i s (withWrite s (s.mapRegs f) a v k) := by
  cases h : (s.mapRegs f).busWrite a v with
  | ok t =>
    obtain ⟨u, hu, rfl⟩ := busWrite_mapRegs_ok h
    have w : Wrote (i.storeAddrs s) s u := by rw [ha]; exact .write hu (.stop _ _)
    rw [withWrite_ok h]
    exact hk u w w.frame.1
  | error e =>
    rw [withWrite_error h, raise_mapRegs]
    exact ends_fault s e (.stop _ _) (faultOf_write (by simp [ha]) (busWrite_mapRegs_error h))

/-- The two stores of an instruction. -/
theorem ends_write2 {a b : Word} {v w : Byte} {f : RegFile → RegFile} {k : State → Exec} (ha : i.storeAddrs s = [a, b])
    (hk : ∀ u, Wrote (i.storeAddrs s) s u → u.regs = s.regs → Ends i s (k (u.mapRegs f))) :
    Ends i s (withWrite s (s.mapRegs f) a v fun t => withWrite s t b w k) := by
  cases h : (s.mapRegs f).busWrite a v with
  | error e =>
    rw [withWrite_error h, raise_mapRegs]
    exact ends_fault s e (.stop _ _) (faultOf_write (by simp [ha]) (busWrite_mapRegs_error h))
  | ok t =>
    obtain ⟨u, hu, rfl⟩ := busWrite_mapRegs_ok h
    rw [withWrite_ok h]
    cases h' : (u.mapRegs f).busWrite b w with
    | error e =>
      rw [withWrite_error h', raise_mapRegs]
      refine ends_fault u e ?_ (faultOf_write (by simp [ha]) (busWrite_mapRegs_error h'))
      rw [ha]; exact .write hu (.stop _ _)
    | ok t' =>
      obtain ⟨u', hu', rfl⟩ := busWrite_mapRegs_ok h'
      rw [withWrite_ok h']
      have w : Wrote (i.storeAddrs s) s u' := by rw [ha]; exact .write hu (.write hu' (.stop _ _))
      exact hk u' w w.frame.1

theorem ends_push {v : Word} {n : Nat} {k : State → Exec}
    (ha : i.storeAddrs s = [s.regs.sp - 1#16, s.regs.sp - 2#16])
    (hk : ∀ u, Wrote (i.storeAddrs s) s u → u.regs = s.regs → Ends i s (k ((u.skip n).setSp (s.regs.sp - 2#16)))) :
    Ends i s (push16 s (s.skip n) v k) := by
  refine ends_write2 (f := fun g => { g with pc := s.regs.pc + BitVec.ofNat 16 n }) ha ?_
  intro u w hr
  have := hk u w hr
  rwa [State.skip, hr] at this

theorem ends_pop {n : Nat} {k : Word → State → Exec} (ha : i.loadAddrs s = [s.regs.sp, s.regs.sp + 1#16])
    (hk : ∀ v, Ends i s (k v ((s.skip n).setSp (s.regs.sp + 2#16)))) : Ends i s (pop16 s (s.skip n) k) := by
  refine ends_read (f := fun g => { g with pc := s.regs.pc + BitVec.ofNat 16 n }) (by simp [ha]) fun lo _ => ?_
  refine ends_read (f := fun g => { g with pc := s.regs.pc + BitVec.ofNat 16 n }) (by simp [ha]) fun hi _ => ?_
  exact hk _

end ends

end Sys2Proof.Machine
end

