-- ==== Sys2Proof/Laws/Effect.lean ====
section
/-! SUPPORT. Every instruction answers a next state, and that state is one of `Effect`: the one lemma behind the
frames, the invariants and the faults. -/

namespace Sys2Proof.Machine

section shapes

variable {i : Instr} {s : State}

theorem frame_pc (v : Word) : RegFrame i s.regs { s.regs with pc := v } :=
  ⟨by simp, fun _ => rfl, fun _ => rfl, fun _ => rfl, fun _ => rfl, fun _ => rfl⟩

theorem frame_set8 (r : Reg8) (v : Byte) (pc : Word) (h : r ∈ i.writes8) :
    RegFrame i s.regs (RegFile.set8 { s.regs with pc := pc } r v) := by
  refine ⟨fun r' hr => ?_, by simp, by simp, by simp, by simp, by simp⟩
  have : r' ≠ r := fun e => hr (e ▸ h)
  simp [this]

theorem frame_set16 (rr : Reg16) (v pc : Word) (h : i.writes8 = rr.halves) (hs : i.writesSp = decide (rr = .sp)) :
    RegFrame i s.regs (RegFile.set16 { s.regs with pc := pc } rr v) := by
  refine ⟨fun r hr => ?_, fun hsp => ?_, by simp, by simp, by simp, by simp⟩
  · rw [RegFile.get8_set16_other _ _ _ (h ▸ hr)]; simp
  · rw [RegFile.set16_sp_other _ _ _ (by simpa [hs] using hsp)]

theorem frame_flags (z n h c : Bool) (pc : Word) (hz : i.writesFlags.z = false → z = s.regs.zf)
    (hn : i.writesFlags.n = false → n = s.regs.nf) (hh : i.writesFlags.h = false → h = s.regs.hf)
    (hc : i.writesFlags.c = false → c = s.regs.cf) :
    RegFrame i s.regs (RegFile.setFlags { s.regs with pc := pc } z n h c) :=
  ⟨by simp, fun _ => rfl, hz, hn, hh, hc⟩

/-- Changing more registers and flags that the instruction may change. -/
theorem RegFrame.trans {g g' g'' : RegFile} (h : RegFrame i g g') (h' : RegFrame i g' g'') : RegFrame i g g'' :=
  ⟨fun r hr => (h'.r8 r hr).trans (h.r8 r hr), fun hs => (h'.sp hs).trans (h.sp hs), fun hs => (h'.z hs).trans (h.z hs),
    fun hs => (h'.n hs).trans (h.n hs), fun hs => (h'.h hs).trans (h.h hs), fun hs => (h'.c hs).trans (h.c hs)⟩

theorem ends_withSrc {x : Src8} {k : Byte → Exec} (ha : i.loadAddrs s = x.addrs s) (hk : ∀ v, Ends i s (k v)) :
    Ends i s (withSrc s s x k) := by
  cases x with
  | reg r => exact hk _
  | mHL => exact ends_read (f := id) (by simp [ha, Src8.addrs]) fun v _ => hk v

/-- Writing an 8-bit operand back and then changing registers alone. -/
theorem ends_withDst {x : Src8} {n : Nat} {v : Byte} {f : RegFile → RegFile} {c : Nat} (ha : i.storeAddrs s = x.addrs s)
    (hd : i.writes8 = x.dests) (hf : ∀ g, RegFrame i s.regs g → RegFrame i s.regs (f g)) (hh : i.halts = false)
    (hc : c = chargeOf i s) : Ends i s (withDst s (s.skip n) x v fun t => complete (t.mapRegs f) c) := by
  cases x with
  | reg r =>
    exact ends_regs (f (RegFile.set8 { s.regs with pc := s.regs.pc + BitVec.ofNat 16 n } r v))
      (hf _ (frame_set8 r v _ (by simp [hd, Src8.dests]))) hh hc
  | mHL =>
    refine ends_write (f := fun g => { g with pc := s.regs.pc + BitVec.ofNat 16 n }) (a := s.regs.hl) ha ?_
    intro u w hr
    have h := ends_done u (f { s.regs with pc := s.regs.pc + BitVec.ofNat 16 n }) w (hf _ (frame_pc _)) hh hc
    rw [← hr] at h ⊢
    exact h

theorem ends_jumpIf {op : Opcode} {taken : Bool} {target : Word} {n : Nat} (hh : i.halts = false)
    (ho : op = i.opcode) (ht : taken = i.taken s.regs) : Ends i s (jumpIf op taken target s (s.skip n)) := by
  unfold jumpIf
  split <;> rename_i h
  · exact ends_regs { s.regs with pc := target } (frame_pc _) hh (by simp [chargeOf, State.cost, ho, ← ht, h])
  · exact ends_regs { s.regs with pc := _ } (frame_pc _) hh (by simp [chargeOf, State.costNotTaken, ho, ← ht, h])

theorem frame_sp (v pc : Word) (h : i.writesSp = true) : RegFrame i s.regs { s.regs with sp := v, pc := pc } :=
  ⟨fun r _ => by cases r <;> rfl, by simp [h], fun _ => rfl, fun _ => rfl, fun _ => rfl, fun _ => rfl⟩

theorem ends_callTo {op : Opcode} {n : Nat} {target : Word} (hh : i.halts = false) (hsp : i.writesSp = true)
    (ha : i.storeAddrs s = [s.regs.sp - 1#16, s.regs.sp - 2#16]) (hc : s.cost op = chargeOf i s) :
    Ends i s (callTo op n target s) := by
  unfold callTo
  refine ends_push ha fun u w hr => ?_
  have h := ends_done u { s.regs with sp := s.regs.sp - 2#16, pc := target } w (frame_sp _ _ hsp) hh hc
  rw [← hr] at h ⊢
  exact h

theorem ends_storeByte {op : Opcode} {n : Nat} {a : Word} {v : Byte} (hh : i.halts = false)
    (ha : i.storeAddrs s = [a]) (hc : s.cost op = chargeOf i s) : Ends i s (storeByte op n a v s) := by
  refine ends_write (f := fun g => { g with pc := s.regs.pc + BitVec.ofNat 16 n }) ha fun u w hr => ?_
  have h := ends_done u { s.regs with pc := s.regs.pc + BitVec.ofNat 16 n } w (frame_pc _) hh hc
  rw [← hr] at h ⊢
  exact h

theorem ends_loadAcc {op : Opcode} {n : Nat} {a : Word} (hh : i.halts = false) (hw : .a ∈ i.writes8)
    (ha : a ∈ i.loadAddrs s) (hc : s.cost op = chargeOf i s) : Ends i s (loadAcc op n a s) :=
  ends_read (f := id) ha fun v _ =>
    ends_regs (RegFile.set8 { s.regs with pc := s.regs.pc + BitVec.ofNat 16 n } .a v) (frame_set8 _ _ _ hw) hh hc

theorem ends_loadAccStep {op : Opcode} {d : Word} (hh : i.halts = false) (hw : i.writes8 = [.a, .h, .l])
    (ha : s.regs.hl ∈ i.loadAddrs s) (hc : s.cost op = chargeOf i s) : Ends i s (loadAccStep op d s) := by
  refine ends_read (f := id) ha fun v _ => ends_regs
    (RegFile.set16 (RegFile.set8 { s.regs with pc := s.regs.pc + BitVec.ofNat 16 1 } .a v) .hl (s.regs.hl + d)) ?_ hh hc
  refine (frame_set8 (s := s) .a v (s.regs.pc + BitVec.ofNat 16 1) (by simp [hw])).trans ?_
  refine ⟨fun r hr => RegFile.get8_set16_other _ _ _ ?_, fun _ => rfl, fun _ => rfl, fun _ => rfl, fun _ => rfl, fun _ => rfl⟩
  rw [hw] at hr
  intro h
  exact hr (by simp [Reg16.halves] at h ⊢; exact .inr h)

theorem ends_storeAccStep {op : Opcode} {d : Word} (hh : i.halts = false) (hw : i.writes8 = [.h, .l])
    (ha : i.storeAddrs s = [s.regs.hl]) (hc : s.cost op = chargeOf i s) : Ends i s (storeAccStep op d s) := by
  refine ends_write (f := fun g => { g with pc := s.regs.pc + BitVec.ofNat 16 1 }) ha fun u w hr => ?_
  have h := ends_done u (RegFile.set16 { s.regs with pc := s.regs.pc + BitVec.ofNat 16 1 } .hl (s.regs.hl + d)) w ?_ hh hc
  · rw [← hr] at h ⊢
    exact h
  · exact ⟨fun r hr => by rw [RegFile.get8_set16_other _ _ _ (by rw [hw] at hr; exact hr)]; simp,
      fun _ => rfl, fun _ => rfl, fun _ => rfl, fun _ => rfl, fun _ => rfl⟩

/-- An instruction that works on the register file alone. -/
theorem ends_regsOnly {op : Opcode} {f : RegFile → RegFile} (hh : i.halts = false)
    (hf : RegFrame i s.regs (f { s.regs with pc := s.regs.pc + BitVec.ofNat 16 1 })) (hc : s.cost op = chargeOf i s) :
    Ends i s (regsOnly op f s) := ends_regs _ hf hh hc

theorem frame_aluResult (f : AluOp) (v : Byte) (pc : Word) (hw : i.writes8 = if f = .cp then [] else [.a])
    (hl : i.writesFlags = ⟨true, true, true, true⟩) :
    RegFrame i s.regs (RegFile.aluResult { s.regs with pc := pc } f v) := by
  refine ⟨fun r hr => ?_, fun _ => ?_, by simp [hl], by simp [hl], by simp [hl], by simp [hl]⟩
  · rw [hw] at hr
    cases f <;> cases r <;> first | rfl | simp at hr
  · cases f <;> rfl

theorem frame_accRotate (p : AccRotateZ) (f : RotOp) (pc : Word) (hw : i.writes8 = [.a])
    (hl : i.writesFlags = ⟨true, true, true, true⟩) :
    RegFrame i s.regs (RegFile.accRotate { s.regs with pc := pc } p f) := by
  refine ⟨fun r hr => ?_, fun _ => rfl, by simp [hl], by simp [hl], by simp [hl], by simp [hl]⟩
  rw [hw] at hr
  cases r <;> first | rfl | simp at hr

theorem frame_spAdd (rr : Reg16) (v : Word) (h c : Bool) (pc : Word) (hw : i.writes8 = rr.halves)
    (hs : i.writesSp = decide (rr = .sp)) (hl : i.writesFlags = ⟨true, true, true, true⟩) :
    RegFrame i s.regs (RegFile.set16 (RegFile.setFlags { s.regs with pc := pc } false false h c) rr v) := by
  refine ⟨fun r hr => ?_, fun hsp => ?_, by simp [hl], by simp [hl], by simp [hl], by simp [hl]⟩
  · rw [RegFile.get8_set16_other _ _ _ (hw ▸ hr)]; simp
  · rw [RegFile.set16_sp_other _ _ _ (by simpa [hs] using hsp)]; simp

end shapes

theorem charge_taken {i : Instr} {s : State} {op : Opcode} (ho : i.opcode = op) (h : i.taken s.regs = true) :
    s.cost op = chargeOf i s := by
  simp [chargeOf, State.cost, ho, h]

theorem effect_ldReg (r r' : Reg8) (s : State) : Ends (Instr.ldReg r r') s (exec (Instr.ldReg r r') s) := by
  rw [exec_ldReg]
  exact ends_regs _ (frame_set8 r _ _ (by simp)) (by simp) (charge_taken rfl (by simp))

theorem effect_ldRegMem (r : Reg8) (s : State) : Ends (Instr.ldRegMem r) s (exec (Instr.ldRegMem r) s) := by
  rw [exec_ldRegMem]
  exact ends_read (f := id) (by simp) fun v _ => ends_regs _ (frame_set8 r v _ (by simp)) (by simp) (charge_taken rfl (by simp))

theorem effect_ldMemReg (r : Reg8) (s : State) : Ends (Instr.ldMemReg r) s (exec (Instr.ldMemReg r) s) := by
  rw [exec_ldMemReg]
  exact ends_storeByte (by simp) (by simp) (charge_taken rfl (by simp))

theorem effect_ldRegImm (r : Reg8) (n : Byte) (s : State) : Ends (Instr.ldRegImm r n) s (exec (Instr.ldRegImm r n) s) := by
  rw [exec_ldRegImm]
  exact ends_regs _ (frame_set8 r _ _ (by simp)) (by simp) (charge_taken rfl (by simp))

theorem effect_ldPairImm (rr : Reg16) (nn : Word) (s : State) : Ends (Instr.ldPairImm rr nn) s (exec (Instr.ldPairImm rr nn) s) := by
  rw [exec_ldPairImm]
  exact ends_regs _ (frame_set16 rr _ _ (by simp) (by simp)) (by simp) (charge_taken rfl (by simp))

theorem effect_push (q : StackReg) (s : State) : Ends (Instr.push q) s (exec (Instr.push q) s) := by
  rw [exec_push]
  refine ends_push (by simp) fun u w hr => ?_
  have h := ends_done u { s.regs with sp := s.regs.sp - 2#16, pc := s.regs.pc + 1#16 } w (frame_sp _ _ (by simp)) (by simp)
    (charge_taken rfl (by simp))
  rw [← hr] at h ⊢
  exact h

theorem effect_pop (q : StackReg) (s : State) : Ends (Instr.pop q) s (exec (Instr.pop q) s) := by
  rw [exec_pop]
  refine ends_pop (by simp) fun v => ?_
  refine ends_regs (RegFile.setStack { s.regs with sp := s.regs.sp + 2#16, pc := s.regs.pc + 1#16 } q v) ?_ (by simp)
    (charge_taken rfl (by simp))
  refine (frame_sp (s := s) (s.regs.sp + 2#16) (s.regs.pc + 1#16) (by simp)).trans ⟨fun r hr => ?_, by simp, ?_, ?_, ?_, ?_⟩
  · exact RegFile.get8_setStack_other _ _ _ (by simpa using hr)
  all_goals
    intro h
    have hq : q ≠ .af := by rintro rfl; simp at h
    simp [RegFile.setStack_zf, RegFile.setStack_nf, RegFile.setStack_hf, RegFile.setStack_cf, hq]

theorem effect_alu (f : AluOp) (x : Src8) (s : State) : Ends (Instr.alu f x) s (exec (Instr.alu f x) s) := by
  rw [exec_alu]
  exact ends_withSrc (by simp) fun v => ends_regs _ (frame_aluResult f v _ (by simp) (by simp)) (by simp) (charge_taken rfl (by simp))

theorem effect_aluImm (f : AluOp) (n : Byte) (s : State) : Ends (Instr.aluImm f n) s (exec (Instr.aluImm f n) s) := by
  rw [exec_aluImm]
  exact ends_regs _ (frame_aluResult f n _ (by simp) (by simp)) (by simp) (charge_taken rfl (by simp))

theorem effect_inc8 (x : Src8) (s : State) : Ends (Instr.inc8 x) s (exec (Instr.inc8 x) s) := by
  rw [exec_inc8]
  exact ends_withSrc (by simp) fun v => ends_withDst (by simp) (by simp)
    (fun g hg => hg.trans ⟨by simp [RegFile.stepFlags], fun _ => rfl, by simp, by simp, by simp, fun _ => rfl⟩) (by simp)
    (charge_taken rfl (by simp))

theorem effect_dec8 (x : Src8) (s : State) : Ends (Instr.dec8 x) s (exec (Instr.dec8 x) s) := by
  rw [exec_dec8]
  exact ends_withSrc (by simp) fun v => ends_withDst (by simp) (by simp)
    (fun g hg => hg.trans ⟨by simp [RegFile.stepFlags], fun _ => rfl, by simp, by simp, by simp, fun _ => rfl⟩) (by simp)
    (charge_taken rfl (by simp))

theorem effect_inc16 (rr : Reg16) (s : State) : Ends (Instr.inc16 rr) s (exec (Instr.inc16 rr) s) := by
  rw [exec_inc16]
  exact ends_regs _ (frame_set16 rr _ _ (by simp) (by simp)) (by simp) (charge_taken rfl (by simp))

theorem effect_dec16 (rr : Reg16) (s : State) : Ends (Instr.dec16 rr) s (exec (Instr.dec16 rr) s) := by
  rw [exec_dec16]
  exact ends_regs _ (frame_set16 rr _ _ (by simp) (by simp)) (by simp) (charge_taken rfl (by simp))

theorem effect_addHl (rr : Reg16) (s : State) : Ends (Instr.addHl rr) s (exec (Instr.addHl rr) s) := by
  rw [exec_addHl]
  refine ends_regs (RegFile.addHl { s.regs with pc := s.regs.pc + 1#16 } (s.regs.get16 rr)) ?_ (by simp) (charge_taken rfl (by simp))
  exact ⟨fun r hr => by
    rw [RegFile.addHl, RegFile.get8_setFlags, RegFile.get8_set16_other _ _ _ (by simpa [Reg16.halves] using hr)]; simp,
    fun _ => rfl, fun _ => rfl, by simp, by simp, by simp⟩

theorem effect_rot (f : RotOp) (x : Src8) (s : State) : Ends (Instr.rot f x) s (exec (Instr.rot f x) s) := by
  rw [exec_rot]
  exact ends_withSrc (by simp) fun v => ends_withDst (by simp) (by simp)
    (fun g hg => hg.trans ⟨by simp [RegFile.rotFlags], fun _ => rfl, by simp, by simp, by simp, by simp⟩) (by simp)
    (charge_taken rfl (by simp))

theorem effect_bit (b : Fin 8) (x : Src8) (s : State) : Ends (Instr.bit b x) s (exec (Instr.bit b x) s) := by
  rw [exec_bit]
  exact ends_withSrc (by simp) fun v => ends_regs _
    (frame_flags _ _ _ _ _ (by simp) (by simp) (by simp) (fun _ => rfl)) (by simp) (charge_taken rfl (by simp))

theorem effect_res (b : Fin 8) (x : Src8) (s : State) : Ends (Instr.res b x) s (exec (Instr.res b x) s) := by
  rw [exec_res]
  exact ends_withSrc (by simp) fun v => ends_withDst (f := id) (by simp) (by simp) (fun g hg => hg) (by simp)
    (charge_taken rfl (by simp))

theorem effect_set (b : Fin 8) (x : Src8) (s : State) : Ends (Instr.set b x) s (exec (Instr.set b x) s) := by
  rw [exec_set]
  exact ends_withSrc (by simp) fun v => ends_withDst (f := id) (by simp) (by simp) (fun g hg => hg) (by simp)
    (charge_taken rfl (by simp))

theorem effect_jrCond (cc : Cond) (e : Int) (s : State) : Ends (Instr.jrCond cc e) s (exec (Instr.jrCond cc e) s) := by
  rw [exec_jrCond]
  exact ends_jumpIf (by simp) rfl (by simp)

theorem effect_jpCond (cc : Cond) (nn : Word) (s : State) : Ends (Instr.jpCond cc nn) s (exec (Instr.jpCond cc nn) s) := by
  rw [exec_jpCond]
  exact ends_jumpIf (by simp) rfl (by simp)

theorem effect_callCond (cc : Cond) (nn : Word) (s : State) : Ends (Instr.callCond cc nn) s (exec (Instr.callCond cc nn) s) := by
  rw [exec_callCond, callIf]
  split <;> rename_i h
  · exact ends_callTo (by simp) (by simp) (by simp [h]) (charge_taken rfl (by simp [h]))
  · exact ends_regs _ (frame_pc _) (by simp) (by simp [chargeOf, State.costNotTaken, h])

theorem effect_retCond (cc : Cond) (s : State) : Ends (Instr.retCond cc) s (exec (Instr.retCond cc) s) := by
  rw [exec_retCond, retIf]
  split <;> rename_i h
  · exact ends_pop (by simp [h]) fun v => ends_regs _ (frame_sp _ v (by simp)) (by simp) (charge_taken rfl (by simp [h]))
  · exact ends_regs _ (frame_pc _) (by simp) (by simp [chargeOf, State.costNotTaken, h])

theorem effect_rst (t : Fin 8) (s : State) : Ends (Instr.rst t) s (exec (Instr.rst t) s) := by
  rw [exec_rst]
  exact ends_callTo (by simp) (by simp) (by simp) (charge_taken rfl (by simp))

theorem effect_undefined (u : UndefinedByte) (s : State) : Ends (Instr.undefined u) s (exec (Instr.undefined u) s) := by
  rw [exec_undefined]
  exact ends_fault s _ (.stop _ _) (.decode u rfl)

theorem effect_nop (s : State) : Ends Instr.nop s (exec Instr.nop s) := by
  exact ends_regs _ (frame_pc _) rfl (charge_taken rfl rfl)

theorem effect_ld_mBC_A (s : State) : Ends Instr.ld_mBC_A s (exec Instr.ld_mBC_A s) := by
  exact ends_storeByte rfl rfl (charge_taken rfl rfl)

theorem effect_rlca (s : State) : Ends Instr.rlca s (exec Instr.rlca s) := by
  exact ends_regs _ (frame_accRotate _ _ _ rfl rfl) rfl (charge_taken rfl rfl)

theorem effect_ld_mnn_SP (nn : Word) (s : State) : Ends (Instr.ld_mnn_SP nn) s (exec (Instr.ld_mnn_SP nn) s) := by
  refine ends_write2 (f := fun g => { g with pc := s.regs.pc + 3#16 }) rfl fun u w hr => ?_
  have h := ends_done u { s.regs with pc := s.regs.pc + 3#16 } w (frame_pc _) rfl (charge_taken rfl rfl)
  rw [← hr] at h ⊢
  exact h

theorem effect_ld_A_mBC (s : State) : Ends Instr.ld_A_mBC s (exec Instr.ld_A_mBC s) := by
  exact ends_loadAcc rfl (by decide) (List.mem_singleton.2 rfl) (charge_taken rfl rfl)

theorem effect_rrca (s : State) : Ends Instr.rrca s (exec Instr.rrca s) := by
  exact ends_regs _ (frame_accRotate _ _ _ rfl rfl) rfl (charge_taken rfl rfl)

theorem effect_stop (n : Byte) (s : State) : Ends (Instr.stop n) s (exec (Instr.stop n) s) := by
  exact ⟨_, rfl, Effect.halt _ (frame_pc _) rfl⟩

theorem effect_ld_mDE_A (s : State) : Ends Instr.ld_mDE_A s (exec Instr.ld_mDE_A s) := by
  exact ends_storeByte rfl rfl (charge_taken rfl rfl)

theorem effect_rla (s : State) : Ends Instr.rla s (exec Instr.rla s) := by
  exact ends_regs _ (frame_accRotate _ _ _ rfl rfl) rfl (charge_taken rfl rfl)

theorem effect_jr_e (e : Int) (s : State) : Ends (Instr.jr_e e) s (exec (Instr.jr_e e) s) := by
  exact ends_jumpIf rfl rfl rfl

theorem effect_ld_A_mDE (s : State) : Ends Instr.ld_A_mDE s (exec Instr.ld_A_mDE s) := by
  exact ends_loadAcc rfl (by decide) (List.mem_singleton.2 rfl) (charge_taken rfl rfl)

theorem effect_rra (s : State) : Ends Instr.rra s (exec Instr.rra s) := by
  exact ends_regs _ (frame_accRotate _ _ _ rfl rfl) rfl (charge_taken rfl rfl)

theorem effect_ld_mHLinc_A (s : State) : Ends Instr.ld_mHLinc_A s (exec Instr.ld_mHLinc_A s) := by
  exact ends_storeAccStep rfl rfl rfl (charge_taken rfl rfl)

theorem effect_daa (s : State) : Ends Instr.daa s (exec Instr.daa s) := by
  refine ends_regsOnly rfl ?_ (charge_taken rfl rfl)
  exact ⟨(fun r hr => by cases r <;> first | exact absurd (by decide) hr | rfl), fun _ => rfl, (fun h => by cases h),
    fun _ => rfl, (fun h => by cases h), (fun h => by cases h)⟩

theorem effect_ld_A_mHLinc (s : State) : Ends Instr.ld_A_mHLinc s (exec Instr.ld_A_mHLinc s) := by
  exact ends_loadAccStep rfl rfl (List.mem_singleton.2 rfl) (charge_taken rfl rfl)

theorem effect_cpl (s : State) : Ends Instr.cpl s (exec Instr.cpl s) := by
  refine ends_regsOnly rfl ?_ (charge_taken rfl rfl)
  exact ⟨(fun r hr => by cases r <;> first | exact absurd (by decide) hr | rfl), fun _ => rfl, fun _ => rfl,
    (fun h => by cases h), (fun h => by cases h), fun _ => rfl⟩

theorem effect_ld_mHLdec_A (s : State) : Ends Instr.ld_mHLdec_A s (exec Instr.ld_mHLdec_A s) := by
  exact ends_storeAccStep rfl rfl rfl (charge_taken rfl rfl)

theorem effect_ld_mHL_n (n : Byte) (s : State) : Ends (Instr.ld_mHL_n n) s (exec (Instr.ld_mHL_n n) s) := by
  exact ends_storeByte rfl rfl (charge_taken rfl rfl)

theorem effect_scf (s : State) : Ends Instr.scf s (exec Instr.scf s) := by
  refine ends_regsOnly rfl ?_ (charge_taken rfl rfl)
  exact ⟨(fun r _ => by cases r <;> rfl), fun _ => rfl, fun _ => rfl, (fun h => by cases h), (fun h => by cases h),
    (fun h => by cases h)⟩

theorem effect_ld_A_mHLdec (s : State) : Ends Instr.ld_A_mHLdec s (exec Instr.ld_A_mHLdec s) := by
  exact ends_loadAccStep rfl rfl (List.mem_singleton.2 rfl) (charge_taken rfl rfl)

theorem effect_ccf (s : State) : Ends Instr.ccf s (exec Instr.ccf s) := by
  refine ends_regsOnly rfl ?_ (charge_taken rfl rfl)
  exact ⟨(fun r _ => by cases r <;> rfl), fun _ => rfl, fun _ => rfl, (fun h => by cases h), (fun h => by cases h),
    (fun h => by cases h)⟩

theorem effect_halt (s : State) : Ends Instr.halt s (exec Instr.halt s) := by
  exact ⟨_, rfl, Effect.halt _ (frame_pc _) rfl⟩

theorem effect_jp_nn (nn : Word) (s : State) : Ends (Instr.jp_nn nn) s (exec (Instr.jp_nn nn) s) := by
  exact ends_jumpIf rfl rfl rfl

theorem effect_ret (s : State) : Ends Instr.ret s (exec Instr.ret s) := by
  show Ends .ret s (pop16 s (s.skip 1) fun v t => complete (t.setPc v) (s.cost (.base 0xC9#8)))
  exact ends_pop rfl fun v => ends_regs _ (frame_sp _ v rfl) rfl (charge_taken rfl rfl)

theorem effect_call_nn (nn : Word) (s : State) : Ends (Instr.call_nn nn) s (exec (Instr.call_nn nn) s) := by
  exact ends_callTo rfl rfl rfl (charge_taken rfl rfl)

theorem effect_reti (s : State) : Ends Instr.reti s (exec Instr.reti s) := by
  show Ends .reti s (pop16 s (s.skip 1) fun v t => complete { t.setPc v with ime := true } (s.cost (.base 0xD9#8)))
  refine ends_pop rfl fun v => ⟨_, rfl, ?_⟩
  exact Effect.done s { s.regs with sp := s.regs.sp + 2#16, pc := v } true s.imePend (.stop _ _) (frame_sp _ _ rfl)
    (.inr ⟨rfl, rfl⟩) (.inl rfl) rfl

theorem effect_ldh_ion_A (n : Byte) (s : State) : Ends (Instr.ldh_ion_A n) s (exec (Instr.ldh_ion_A n) s) := by
  exact ends_storeByte rfl rfl (charge_taken rfl rfl)

theorem effect_ld_ioC_A (s : State) : Ends Instr.ld_ioC_A s (exec Instr.ld_ioC_A s) := by
  exact ends_storeByte rfl rfl (charge_taken rfl rfl)

theorem effect_add_SP_e (e : Int) (s : State) : Ends (Instr.add_SP_e e) s (exec (Instr.add_SP_e e) s) := by
  exact ends_regs _ (frame_spAdd .sp _ _ _ _ rfl rfl rfl) rfl (charge_taken rfl rfl)

theorem effect_jp_HL (s : State) : Ends Instr.jp_HL s (exec Instr.jp_HL s) := by
  exact ends_jumpIf (n := 1) rfl rfl rfl

theorem effect_ld_mnn_A (nn : Word) (s : State) : Ends (Instr.ld_mnn_A nn) s (exec (Instr.ld_mnn_A nn) s) := by
  exact ends_storeByte rfl rfl (charge_taken rfl rfl)

theorem effect_ldh_A_ion (n : Byte) (s : State) : Ends (Instr.ldh_A_ion n) s (exec (Instr.ldh_A_ion n) s) := by
  show Ends (.ldh_A_ion n) s (loadAcc (.base 0xF0#8) 2 (ioAddr n) s)
  exact ends_loadAcc rfl (show Reg8.a ∈ [Reg8.a] by decide) (List.mem_singleton.2 rfl) (charge_taken rfl rfl)

theorem effect_ld_A_ioC (s : State) : Ends Instr.ld_A_ioC s (exec Instr.ld_A_ioC s) := by
  exact ends_loadAcc rfl (by decide) (List.mem_singleton.2 rfl) (charge_taken rfl rfl)

theorem effect_di (s : State) : Ends Instr.di s (exec Instr.di s) := by
  exact ⟨_, rfl, Effect.done s { s.regs with pc := s.regs.pc + 1#16 } s.ime _ (.stop _ _) (frame_pc _) (.inl rfl)
    (.inr (.inl ⟨rfl, rfl⟩)) rfl⟩

theorem effect_ld_HL_SPe (e : Int) (s : State) : Ends (Instr.ld_HL_SPe e) s (exec (Instr.ld_HL_SPe e) s) := by
  exact ends_regs _ (frame_spAdd .hl _ _ _ _ rfl rfl rfl) rfl (charge_taken rfl rfl)

theorem effect_ld_SP_HL (s : State) : Ends Instr.ld_SP_HL s (exec Instr.ld_SP_HL s) := by
  exact ends_regs _ (frame_sp _ _ rfl) rfl (charge_taken rfl rfl)

theorem effect_ld_A_mnn (nn : Word) (s : State) : Ends (Instr.ld_A_mnn nn) s (exec (Instr.ld_A_mnn nn) s) := by
  show Ends (.ld_A_mnn nn) s (loadAcc (.base 0xFA#8) 3 nn s)
  exact ends_loadAcc rfl (show Reg8.a ∈ [Reg8.a] by decide) (List.mem_singleton.2 rfl) (charge_taken rfl rfl)

theorem effect_ei (s : State) : Ends Instr.ei s (exec Instr.ei s) := by
  exact ⟨_, rfl, Effect.done s { s.regs with pc := s.regs.pc + 1#16 } s.ime _ (.stop _ _) (frame_pc _) (.inl rfl)
    (.inr (.inr ⟨rfl, rfl⟩)) rfl⟩

/-- Every instruction answers a next state, one of `Effect`. -/
theorem exec_ends (i : Instr) (s : State) : Ends i s (exec i s) := by
  induction i using Instr.families with
  | h_ldReg r r' => exact effect_ldReg r r' s
  | h_ldRegMem r => exact effect_ldRegMem r s
  | h_ldMemReg r => exact effect_ldMemReg r s
  | h_ldRegImm r n => exact effect_ldRegImm r n s
  | h_ldPairImm rr nn => exact effect_ldPairImm rr nn s
  | h_push q => exact effect_push q s
  | h_pop q => exact effect_pop q s
  | h_alu f x => exact effect_alu f x s
  | h_aluImm f n => exact effect_aluImm f n s
  | h_inc8 x => exact effect_inc8 x s
  | h_dec8 x => exact effect_dec8 x s
  | h_inc16 rr => exact effect_inc16 rr s
  | h_dec16 rr => exact effect_dec16 rr s
  | h_addHl rr => exact effect_addHl rr s
  | h_rot f x => exact effect_rot f x s
  | h_bit b x => exact effect_bit b x s
  | h_res b x => exact effect_res b x s
  | h_set b x => exact effect_set b x s
  | h_jrCond cc e => exact effect_jrCond cc e s
  | h_jpCond cc nn => exact effect_jpCond cc nn s
  | h_callCond cc nn => exact effect_callCond cc nn s
  | h_retCond cc => exact effect_retCond cc s
  | h_rst t => exact effect_rst t s
  | h_undefined u => exact effect_undefined u s
  | h_nop => exact effect_nop s
  | h_ld_mBC_A => exact effect_ld_mBC_A s
  | h_rlca => exact effect_rlca s
  | h_ld_mnn_SP nn => exact effect_ld_mnn_SP nn s
  | h_ld_A_mBC => exact effect_ld_A_mBC s
  | h_rrca => exact effect_rrca s
  | h_stop n => exact effect_stop n s
  | h_ld_mDE_A => exact effect_ld_mDE_A s
  | h_rla => exact effect_rla s
  | h_jr_e e => exact effect_jr_e e s
  | h_ld_A_mDE => exact effect_ld_A_mDE s
  | h_rra => exact effect_rra s
  | h_ld_mHLinc_A => exact effect_ld_mHLinc_A s
  | h_daa => exact effect_daa s
  | h_ld_A_mHLinc => exact effect_ld_A_mHLinc s
  | h_cpl => exact effect_cpl s
  | h_ld_mHLdec_A => exact effect_ld_mHLdec_A s
  | h_ld_mHL_n n => exact effect_ld_mHL_n n s
  | h_scf => exact effect_scf s
  | h_ld_A_mHLdec => exact effect_ld_A_mHLdec s
  | h_ccf => exact effect_ccf s
  | h_halt => exact effect_halt s
  | h_jp_nn nn => exact effect_jp_nn nn s
  | h_ret => exact effect_ret s
  | h_call_nn nn => exact effect_call_nn nn s
  | h_reti => exact effect_reti s
  | h_ldh_ion_A n => exact effect_ldh_ion_A n s
  | h_ld_ioC_A => exact effect_ld_ioC_A s
  | h_add_SP_e e => exact effect_add_SP_e e s
  | h_jp_HL => exact effect_jp_HL s
  | h_ld_mnn_A nn => exact effect_ld_mnn_A nn s
  | h_ldh_A_ion n => exact effect_ldh_A_ion n s
  | h_ld_A_ioC => exact effect_ld_A_ioC s
  | h_di => exact effect_di s
  | h_ld_HL_SPe e => exact effect_ld_HL_SPe e s
  | h_ld_SP_HL => exact effect_ld_SP_HL s
  | h_ld_A_mnn nn => exact effect_ld_A_mnn nn s
  | h_ei => exact effect_ei s

end Sys2Proof.Machine
end

