-- ==== Sys2Proof/Laws/PerInstr.lean ====
section
/-! SUPPORT. The family Encoding: the shape of the encoding of every instruction, one lemma per constructor. -/

namespace Sys2Proof.Laws.Encoding

/-- The encoding starts with the instruction's opcode byte, or with the prefix and its second byte, and is as long as
its first byte says (R91, R93, R94). -/
def Statement (i : Instr) : Prop :=
  match i.opcode with
  | .base op => op ≠ 0xCB#8 ∧ (encode i).head? = some op ∧ (encode i).length = instrLength op
  | .cb op2 => encode i = [0xCB#8, op2]

theorem ld_BC_nn (nn : Word) : Statement (.ld_BC_nn nn) := ⟨by decide, rfl, rfl⟩
theorem ld_B_n (n : Byte) : Statement (.ld_B_n n) := ⟨by decide, rfl, rfl⟩
theorem ld_mnn_SP (nn : Word) : Statement (.ld_mnn_SP nn) := ⟨by decide, rfl, rfl⟩
theorem ld_C_n (n : Byte) : Statement (.ld_C_n n) := ⟨by decide, rfl, rfl⟩
theorem stop (n : Byte) : Statement (.stop n) := ⟨by decide, rfl, rfl⟩
theorem ld_DE_nn (nn : Word) : Statement (.ld_DE_nn nn) := ⟨by decide, rfl, rfl⟩
theorem ld_D_n (n : Byte) : Statement (.ld_D_n n) := ⟨by decide, rfl, rfl⟩
theorem jr_e (e : Int) : Statement (.jr_e e) := ⟨by decide, rfl, rfl⟩
theorem ld_E_n (n : Byte) : Statement (.ld_E_n n) := ⟨by decide, rfl, rfl⟩
theorem jr_NZ_e (e : Int) : Statement (.jr_NZ_e e) := ⟨by decide, rfl, rfl⟩
theorem ld_HL_nn (nn : Word) : Statement (.ld_HL_nn nn) := ⟨by decide, rfl, rfl⟩
theorem ld_H_n (n : Byte) : Statement (.ld_H_n n) := ⟨by decide, rfl, rfl⟩
theorem jr_Z_e (e : Int) : Statement (.jr_Z_e e) := ⟨by decide, rfl, rfl⟩
theorem ld_L_n (n : Byte) : Statement (.ld_L_n n) := ⟨by decide, rfl, rfl⟩
theorem jr_NC_e (e : Int) : Statement (.jr_NC_e e) := ⟨by decide, rfl, rfl⟩
theorem ld_SP_nn (nn : Word) : Statement (.ld_SP_nn nn) := ⟨by decide, rfl, rfl⟩
theorem ld_mHL_n (n : Byte) : Statement (.ld_mHL_n n) := ⟨by decide, rfl, rfl⟩
theorem jr_C_e (e : Int) : Statement (.jr_C_e e) := ⟨by decide, rfl, rfl⟩
theorem ld_A_n (n : Byte) : Statement (.ld_A_n n) := ⟨by decide, rfl, rfl⟩
theorem jp_NZ_nn (nn : Word) : Statement (.jp_NZ_nn nn) := ⟨by decide, rfl, rfl⟩
theorem jp_nn (nn : Word) : Statement (.jp_nn nn) := ⟨by decide, rfl, rfl⟩
theorem call_NZ_nn (nn : Word) : Statement (.call_NZ_nn nn) := ⟨by decide, rfl, rfl⟩
theorem add_A_n (n : Byte) : Statement (.add_A_n n) := ⟨by decide, rfl, rfl⟩
theorem jp_Z_nn (nn : Word) : Statement (.jp_Z_nn nn) := ⟨by decide, rfl, rfl⟩
theorem call_Z_nn (nn : Word) : Statement (.call_Z_nn nn) := ⟨by decide, rfl, rfl⟩
theorem call_nn (nn : Word) : Statement (.call_nn nn) := ⟨by decide, rfl, rfl⟩
theorem adc_A_n (n : Byte) : Statement (.adc_A_n n) := ⟨by decide, rfl, rfl⟩
theorem jp_NC_nn (nn : Word) : Statement (.jp_NC_nn nn) := ⟨by decide, rfl, rfl⟩
theorem call_NC_nn (nn : Word) : Statement (.call_NC_nn nn) := ⟨by decide, rfl, rfl⟩
theorem sub_n (n : Byte) : Statement (.sub_n n) := ⟨by decide, rfl, rfl⟩
theorem jp_C_nn (nn : Word) : Statement (.jp_C_nn nn) := ⟨by decide, rfl, rfl⟩
theorem call_C_nn (nn : Word) : Statement (.call_C_nn nn) := ⟨by decide, rfl, rfl⟩
theorem sbc_A_n (n : Byte) : Statement (.sbc_A_n n) := ⟨by decide, rfl, rfl⟩
theorem ldh_ion_A (n : Byte) : Statement (.ldh_ion_A n) := ⟨by decide, rfl, rfl⟩
theorem and_n (n : Byte) : Statement (.and_n n) := ⟨by decide, rfl, rfl⟩
theorem add_SP_e (e : Int) : Statement (.add_SP_e e) := ⟨by decide, rfl, rfl⟩
theorem ld_mnn_A (nn : Word) : Statement (.ld_mnn_A nn) := ⟨by decide, rfl, rfl⟩
theorem xor_n (n : Byte) : Statement (.xor_n n) := ⟨by decide, rfl, rfl⟩
theorem ldh_A_ion (n : Byte) : Statement (.ldh_A_ion n) := ⟨by decide, rfl, rfl⟩
theorem or_n (n : Byte) : Statement (.or_n n) := ⟨by decide, rfl, rfl⟩
theorem ld_HL_SPe (e : Int) : Statement (.ld_HL_SPe e) := ⟨by decide, rfl, rfl⟩
theorem ld_A_mnn (nn : Word) : Statement (.ld_A_mnn nn) := ⟨by decide, rfl, rfl⟩
theorem cp_n (n : Byte) : Statement (.cp_n n) := ⟨by decide, rfl, rfl⟩
theorem nop : Statement .nop := ⟨by decide, rfl, rfl⟩
theorem ld_mBC_A : Statement .ld_mBC_A := ⟨by decide, rfl, rfl⟩
theorem inc_BC : Statement .inc_BC := ⟨by decide, rfl, rfl⟩
theorem inc_B : Statement .inc_B := ⟨by decide, rfl, rfl⟩
theorem dec_B : Statement .dec_B := ⟨by decide, rfl, rfl⟩
theorem rlca : Statement .rlca := ⟨by decide, rfl, rfl⟩
theorem add_HL_BC : Statement .add_HL_BC := ⟨by decide, rfl, rfl⟩
theorem ld_A_mBC : Statement .ld_A_mBC := ⟨by decide, rfl, rfl⟩
theorem dec_BC : Statement .dec_BC := ⟨by decide, rfl, rfl⟩
theorem inc_C : Statement .inc_C := ⟨by decide, rfl, rfl⟩
theorem dec_C : Statement .dec_C := ⟨by decide, rfl, rfl⟩
theorem rrca : Statement .rrca := ⟨by decide, rfl, rfl⟩
theorem ld_mDE_A : Statement .ld_mDE_A := ⟨by decide, rfl, rfl⟩
theorem inc_DE : Statement .inc_DE := ⟨by decide, rfl, rfl⟩
theorem inc_D : Statement .inc_D := ⟨by decide, rfl, rfl⟩
theorem dec_D : Statement .dec_D := ⟨by decide, rfl, rfl⟩
theorem rla : Statement .rla := ⟨by decide, rfl, rfl⟩
theorem add_HL_DE : Statement .add_HL_DE := ⟨by decide, rfl, rfl⟩
theorem ld_A_mDE : Statement .ld_A_mDE := ⟨by decide, rfl, rfl⟩
theorem dec_DE : Statement .dec_DE := ⟨by decide, rfl, rfl⟩
theorem inc_E : Statement .inc_E := ⟨by decide, rfl, rfl⟩
theorem dec_E : Statement .dec_E := ⟨by decide, rfl, rfl⟩
theorem rra : Statement .rra := ⟨by decide, rfl, rfl⟩
theorem ld_mHLinc_A : Statement .ld_mHLinc_A := ⟨by decide, rfl, rfl⟩
theorem inc_HL : Statement .inc_HL := ⟨by decide, rfl, rfl⟩
theorem inc_H : Statement .inc_H := ⟨by decide, rfl, rfl⟩
theorem dec_H : Statement .dec_H := ⟨by decide, rfl, rfl⟩
theorem daa : Statement .daa := ⟨by decide, rfl, rfl⟩
theorem add_HL_HL : Statement .add_HL_HL := ⟨by decide, rfl, rfl⟩
theorem ld_A_mHLinc : Statement .ld_A_mHLinc := ⟨by decide, rfl, rfl⟩
theorem dec_HL : Statement .dec_HL := ⟨by decide, rfl, rfl⟩
theorem inc_L : Statement .inc_L := ⟨by decide, rfl, rfl⟩
theorem dec_L : Statement .dec_L := ⟨by decide, rfl, rfl⟩
theorem cpl : Statement .cpl := ⟨by decide, rfl, rfl⟩
theorem ld_mHLdec_A : Statement .ld_mHLdec_A := ⟨by decide, rfl, rfl⟩
theorem inc_SP : Statement .inc_SP := ⟨by decide, rfl, rfl⟩
theorem inc_mHL : Statement .inc_mHL := ⟨by decide, rfl, rfl⟩
theorem dec_mHL : Statement .dec_mHL := ⟨by decide, rfl, rfl⟩
theorem scf : Statement .scf := ⟨by decide, rfl, rfl⟩
theorem add_HL_SP : Statement .add_HL_SP := ⟨by decide, rfl, rfl⟩
theorem ld_A_mHLdec : Statement .ld_A_mHLdec := ⟨by decide, rfl, rfl⟩
theorem dec_SP : Statement .dec_SP := ⟨by decide, rfl, rfl⟩
theorem inc_A : Statement .inc_A := ⟨by decide, rfl, rfl⟩
theorem dec_A : Statement .dec_A := ⟨by decide, rfl, rfl⟩
theorem ccf : Statement .ccf := ⟨by decide, rfl, rfl⟩
theorem ld_B_B : Statement .ld_B_B := ⟨by decide, rfl, rfl⟩
theorem ld_B_C : Statement .ld_B_C := ⟨by decide, rfl, rfl⟩
theorem ld_B_D : Statement .ld_B_D := ⟨by decide, rfl, rfl⟩
theorem ld_B_E : Statement .ld_B_E := ⟨by decide, rfl, rfl⟩
theorem ld_B_H : Statement .ld_B_H := ⟨by decide, rfl, rfl⟩
theorem ld_B_L : Statement .ld_B_L := ⟨by decide, rfl, rfl⟩
theorem ld_B_mHL : Statement .ld_B_mHL := ⟨by decide, rfl, rfl⟩
theorem ld_B_A : Statement .ld_B_A := ⟨by decide, rfl, rfl⟩
theorem ld_C_B : Statement .ld_C_B := ⟨by decide, rfl, rfl⟩
theorem ld_C_C : Statement .ld_C_C := ⟨by decide, rfl, rfl⟩
theorem ld_C_D : Statement .ld_C_D := ⟨by decide, rfl, rfl⟩
theorem ld_C_E : Statement .ld_C_E := ⟨by decide, rfl, rfl⟩
theorem ld_C_H : Statement .ld_C_H := ⟨by decide, rfl, rfl⟩
theorem ld_C_L : Statement .ld_C_L := ⟨by decide, rfl, rfl⟩
theorem ld_C_mHL : Statement .ld_C_mHL := ⟨by decide, rfl, rfl⟩
theorem ld_C_A : Statement .ld_C_A := ⟨by decide, rfl, rfl⟩
theorem ld_D_B : Statement .ld_D_B := ⟨by decide, rfl, rfl⟩
theorem ld_D_C : Statement .ld_D_C := ⟨by decide, rfl, rfl⟩
theorem ld_D_D : Statement .ld_D_D := ⟨by decide, rfl, rfl⟩
theorem ld_D_E : Statement .ld_D_E := ⟨by decide, rfl, rfl⟩
theorem ld_D_H : Statement .ld_D_H := ⟨by decide, rfl, rfl⟩
theorem ld_D_L : Statement .ld_D_L := ⟨by decide, rfl, rfl⟩
theorem ld_D_mHL : Statement .ld_D_mHL := ⟨by decide, rfl, rfl⟩
theorem ld_D_A : Statement .ld_D_A := ⟨by decide, rfl, rfl⟩
theorem ld_E_B : Statement .ld_E_B := ⟨by decide, rfl, rfl⟩
theorem ld_E_C : Statement .ld_E_C := ⟨by decide, rfl, rfl⟩
theorem ld_E_D : Statement .ld_E_D := ⟨by decide, rfl, rfl⟩
theorem ld_E_E : Statement .ld_E_E := ⟨by decide, rfl, rfl⟩
theorem ld_E_H : Statement .ld_E_H := ⟨by decide, rfl, rfl⟩
theorem ld_E_L : Statement .ld_E_L := ⟨by decide, rfl, rfl⟩
theorem ld_E_mHL : Statement .ld_E_mHL := ⟨by decide, rfl, rfl⟩
theorem ld_E_A : Statement .ld_E_A := ⟨by decide, rfl, rfl⟩
theorem ld_H_B : Statement .ld_H_B := ⟨by decide, rfl, rfl⟩
theorem ld_H_C : Statement .ld_H_C := ⟨by decide, rfl, rfl⟩
theorem ld_H_D : Statement .ld_H_D := ⟨by decide, rfl, rfl⟩
theorem ld_H_E : Statement .ld_H_E := ⟨by decide, rfl, rfl⟩
theorem ld_H_H : Statement .ld_H_H := ⟨by decide, rfl, rfl⟩
theorem ld_H_L : Statement .ld_H_L := ⟨by decide, rfl, rfl⟩
theorem ld_H_mHL : Statement .ld_H_mHL := ⟨by decide, rfl, rfl⟩
theorem ld_H_A : Statement .ld_H_A := ⟨by decide, rfl, rfl⟩
theorem ld_L_B : Statement .ld_L_B := ⟨by decide, rfl, rfl⟩
theorem ld_L_C : Statement .ld_L_C := ⟨by decide, rfl, rfl⟩
theorem ld_L_D : Statement .ld_L_D := ⟨by decide, rfl, rfl⟩
theorem ld_L_E : Statement .ld_L_E := ⟨by decide, rfl, rfl⟩
theorem ld_L_H : Statement .ld_L_H := ⟨by decide, rfl, rfl⟩
theorem ld_L_L : Statement .ld_L_L := ⟨by decide, rfl, rfl⟩
theorem ld_L_mHL : Statement .ld_L_mHL := ⟨by decide, rfl, rfl⟩
theorem ld_L_A : Statement .ld_L_A := ⟨by decide, rfl, rfl⟩
theorem ld_mHL_B : Statement .ld_mHL_B := ⟨by decide, rfl, rfl⟩
theorem ld_mHL_C : Statement .ld_mHL_C := ⟨by decide, rfl, rfl⟩
theorem ld_mHL_D : Statement .ld_mHL_D := ⟨by decide, rfl, rfl⟩
theorem ld_mHL_E : Statement .ld_mHL_E := ⟨by decide, rfl, rfl⟩
theorem ld_mHL_H : Statement .ld_mHL_H := ⟨by decide, rfl, rfl⟩
theorem ld_mHL_L : Statement .ld_mHL_L := ⟨by decide, rfl, rfl⟩
theorem halt : Statement .halt := ⟨by decide, rfl, rfl⟩
theorem ld_mHL_A : Statement .ld_mHL_A := ⟨by decide, rfl, rfl⟩
theorem ld_A_B : Statement .ld_A_B := ⟨by decide, rfl, rfl⟩
theorem ld_A_C : Statement .ld_A_C := ⟨by decide, rfl, rfl⟩
theorem ld_A_D : Statement .ld_A_D := ⟨by decide, rfl, rfl⟩
theorem ld_A_E : Statement .ld_A_E := ⟨by decide, rfl, rfl⟩
theorem ld_A_H : Statement .ld_A_H := ⟨by decide, rfl, rfl⟩
theorem ld_A_L : Statement .ld_A_L := ⟨by decide, rfl, rfl⟩
theorem ld_A_mHL : Statement .ld_A_mHL := ⟨by decide, rfl, rfl⟩
theorem ld_A_A : Statement .ld_A_A := ⟨by decide, rfl, rfl⟩
theorem add_A_B : Statement .add_A_B := ⟨by decide, rfl, rfl⟩
theorem add_A_C : Statement .add_A_C := ⟨by decide, rfl, rfl⟩
theorem add_A_D : Statement .add_A_D := ⟨by decide, rfl, rfl⟩
theorem add_A_E : Statement .add_A_E := ⟨by decide, rfl, rfl⟩
theorem add_A_H : Statement .add_A_H := ⟨by decide, rfl, rfl⟩
theorem add_A_L : Statement .add_A_L := ⟨by decide, rfl, rfl⟩
theorem add_A_mHL : Statement .add_A_mHL := ⟨by decide, rfl, rfl⟩
theorem add_A_A : Statement .add_A_A := ⟨by decide, rfl, rfl⟩
theorem adc_A_B : Statement .adc_A_B := ⟨by decide, rfl, rfl⟩
theorem adc_A_C : Statement .adc_A_C := ⟨by decide, rfl, rfl⟩
theorem adc_A_D : Statement .adc_A_D := ⟨by decide, rfl, rfl⟩
theorem adc_A_E : Statement .adc_A_E := ⟨by decide, rfl, rfl⟩
theorem adc_A_H : Statement .adc_A_H := ⟨by decide, rfl, rfl⟩
theorem adc_A_L : Statement .adc_A_L := ⟨by decide, rfl, rfl⟩
theorem adc_A_mHL : Statement .adc_A_mHL := ⟨by decide, rfl, rfl⟩
theorem adc_A_A : Statement .adc_A_A := ⟨by decide, rfl, rfl⟩
theorem sub_B : Statement .sub_B := ⟨by decide, rfl, rfl⟩
theorem sub_C : Statement .sub_C := ⟨by decide, rfl, rfl⟩
theorem sub_D : Statement .sub_D := ⟨by decide, rfl, rfl⟩
theorem sub_E : Statement .sub_E := ⟨by decide, rfl, rfl⟩
theorem sub_H : Statement .sub_H := ⟨by decide, rfl, rfl⟩
theorem sub_L : Statement .sub_L := ⟨by decide, rfl, rfl⟩
theorem sub_mHL : Statement .sub_mHL := ⟨by decide, rfl, rfl⟩
theorem sub_A : Statement .sub_A := ⟨by decide, rfl, rfl⟩
theorem sbc_A_B : Statement .sbc_A_B := ⟨by decide, rfl, rfl⟩
theorem sbc_A_C : Statement .sbc_A_C := ⟨by decide, rfl, rfl⟩
theorem sbc_A_D : Statement .sbc_A_D := ⟨by decide, rfl, rfl⟩
theorem sbc_A_E : Statement .sbc_A_E := ⟨by decide, rfl, rfl⟩
theorem sbc_A_H : Statement .sbc_A_H := ⟨by decide, rfl, rfl⟩
theorem sbc_A_L : Statement .sbc_A_L := ⟨by decide, rfl, rfl⟩
theorem sbc_A_mHL : Statement .sbc_A_mHL := ⟨by decide, rfl, rfl⟩
theorem sbc_A_A : Statement .sbc_A_A := ⟨by decide, rfl, rfl⟩
theorem and_B : Statement .and_B := ⟨by decide, rfl, rfl⟩
theorem and_C : Statement .and_C := ⟨by decide, rfl, rfl⟩
theorem and_D : Statement .and_D := ⟨by decide, rfl, rfl⟩
theorem and_E : Statement .and_E := ⟨by decide, rfl, rfl⟩
theorem and_H : Statement .and_H := ⟨by decide, rfl, rfl⟩
theorem and_L : Statement .and_L := ⟨by decide, rfl, rfl⟩
theorem and_mHL : Statement .and_mHL := ⟨by decide, rfl, rfl⟩
theorem and_A : Statement .and_A := ⟨by decide, rfl, rfl⟩
theorem xor_B : Statement .xor_B := ⟨by decide, rfl, rfl⟩
theorem xor_C : Statement .xor_C := ⟨by decide, rfl, rfl⟩
theorem xor_D : Statement .xor_D := ⟨by decide, rfl, rfl⟩
theorem xor_E : Statement .xor_E := ⟨by decide, rfl, rfl⟩
theorem xor_H : Statement .xor_H := ⟨by decide, rfl, rfl⟩
theorem xor_L : Statement .xor_L := ⟨by decide, rfl, rfl⟩
theorem xor_mHL : Statement .xor_mHL := ⟨by decide, rfl, rfl⟩
theorem xor_A : Statement .xor_A := ⟨by decide, rfl, rfl⟩
theorem or_B : Statement .or_B := ⟨by decide, rfl, rfl⟩
theorem or_C : Statement .or_C := ⟨by decide, rfl, rfl⟩
theorem or_D : Statement .or_D := ⟨by decide, rfl, rfl⟩
theorem or_E : Statement .or_E := ⟨by decide, rfl, rfl⟩
theorem or_H : Statement .or_H := ⟨by decide, rfl, rfl⟩
theorem or_L : Statement .or_L := ⟨by decide, rfl, rfl⟩
theorem or_mHL : Statement .or_mHL := ⟨by decide, rfl, rfl⟩
theorem or_A : Statement .or_A := ⟨by decide, rfl, rfl⟩
theorem cp_B : Statement .cp_B := ⟨by decide, rfl, rfl⟩
theorem cp_C : Statement .cp_C := ⟨by decide, rfl, rfl⟩
theorem cp_D : Statement .cp_D := ⟨by decide, rfl, rfl⟩
theorem cp_E : Statement .cp_E := ⟨by decide, rfl, rfl⟩
theorem cp_H : Statement .cp_H := ⟨by decide, rfl, rfl⟩
theorem cp_L : Statement .cp_L := ⟨by decide, rfl, rfl⟩
theorem cp_mHL : Statement .cp_mHL := ⟨by decide, rfl, rfl⟩
theorem cp_A : Statement .cp_A := ⟨by decide, rfl, rfl⟩
theorem ret_NZ : Statement .ret_NZ := ⟨by decide, rfl, rfl⟩
theorem pop_BC : Statement .pop_BC := ⟨by decide, rfl, rfl⟩
theorem push_BC : Statement .push_BC := ⟨by decide, rfl, rfl⟩
theorem rst_00H : Statement .rst_00H := ⟨by decide, rfl, rfl⟩
theorem ret_Z : Statement .ret_Z := ⟨by decide, rfl, rfl⟩
theorem ret : Statement .ret := ⟨by decide, rfl, rfl⟩
theorem rst_08H : Statement .rst_08H := ⟨by decide, rfl, rfl⟩
theorem ret_NC : Statement .ret_NC := ⟨by decide, rfl, rfl⟩
theorem pop_DE : Statement .pop_DE := ⟨by decide, rfl, rfl⟩
theorem undefined_D3 : Statement .undefined_D3 := ⟨by decide, rfl, rfl⟩
theorem push_DE : Statement .push_DE := ⟨by decide, rfl, rfl⟩
theorem rst_10H : Statement .rst_10H := ⟨by decide, rfl, rfl⟩
theorem ret_C : Statement .ret_C := ⟨by decide, rfl, rfl⟩
theorem reti : Statement .reti := ⟨by decide, rfl, rfl⟩
theorem undefined_DB : Statement .undefined_DB := ⟨by decide, rfl, rfl⟩
theorem undefined_DD : Statement .undefined_DD := ⟨by decide, rfl, rfl⟩
theorem rst_18H : Statement .rst_18H := ⟨by decide, rfl, rfl⟩
theorem pop_HL : Statement .pop_HL := ⟨by decide, rfl, rfl⟩
theorem ld_ioC_A : Statement .ld_ioC_A := ⟨by decide, rfl, rfl⟩
theorem undefined_E3 : Statement .undefined_E3 := ⟨by decide, rfl, rfl⟩
theorem undefined_E4 : Statement .undefined_E4 := ⟨by decide, rfl, rfl⟩
theorem push_HL : Statement .push_HL := ⟨by decide, rfl, rfl⟩
theorem rst_20H : Statement .rst_20H := ⟨by decide, rfl, rfl⟩
theorem jp_HL : Statement .jp_HL := ⟨by decide, rfl, rfl⟩
theorem undefined_EB : Statement .undefined_EB := ⟨by decide, rfl, rfl⟩
theorem undefined_EC : Statement .undefined_EC := ⟨by decide, rfl, rfl⟩
theorem undefined_ED : Statement .undefined_ED := ⟨by decide, rfl, rfl⟩
theorem rst_28H : Statement .rst_28H := ⟨by decide, rfl, rfl⟩
theorem pop_AF : Statement .pop_AF := ⟨by decide, rfl, rfl⟩
theorem ld_A_ioC : Statement .ld_A_ioC := ⟨by decide, rfl, rfl⟩
theorem di : Statement .di := ⟨by decide, rfl, rfl⟩
theorem undefined_F4 : Statement .undefined_F4 := ⟨by decide, rfl, rfl⟩
theorem push_AF : Statement .push_AF := ⟨by decide, rfl, rfl⟩
theorem rst_30H : Statement .rst_30H := ⟨by decide, rfl, rfl⟩
theorem ld_SP_HL : Statement .ld_SP_HL := ⟨by decide, rfl, rfl⟩
theorem ei : Statement .ei := ⟨by decide, rfl, rfl⟩
theorem undefined_FC : Statement .undefined_FC := ⟨by decide, rfl, rfl⟩
theorem undefined_FD : Statement .undefined_FD := ⟨by decide, rfl, rfl⟩
theorem rst_38H : Statement .rst_38H := ⟨by decide, rfl, rfl⟩
theorem rlc_B : Statement .rlc_B := rfl
theorem rlc_C : Statement .rlc_C := rfl
theorem rlc_D : Statement .rlc_D := rfl
theorem rlc_E : Statement .rlc_E := rfl
theorem rlc_H : Statement .rlc_H := rfl
theorem rlc_L : Statement .rlc_L := rfl
theorem rlc_mHL : Statement .rlc_mHL := rfl
theorem rlc_A : Statement .rlc_A := rfl
theorem rrc_B : Statement .rrc_B := rfl
theorem rrc_C : Statement .rrc_C := rfl
theorem rrc_D : Statement .rrc_D := rfl
theorem rrc_E : Statement .rrc_E := rfl
theorem rrc_H : Statement .rrc_H := rfl
theorem rrc_L : Statement .rrc_L := rfl
theorem rrc_mHL : Statement .rrc_mHL := rfl
theorem rrc_A : Statement .rrc_A := rfl
theorem rl_B : Statement .rl_B := rfl
theorem rl_C : Statement .rl_C := rfl
theorem rl_D : Statement .rl_D := rfl
theorem rl_E : Statement .rl_E := rfl
theorem rl_H : Statement .rl_H := rfl
theorem rl_L : Statement .rl_L := rfl
theorem rl_mHL : Statement .rl_mHL := rfl
theorem rl_A : Statement .rl_A := rfl
theorem rr_B : Statement .rr_B := rfl
theorem rr_C : Statement .rr_C := rfl
theorem rr_D : Statement .rr_D := rfl
theorem rr_E : Statement .rr_E := rfl
theorem rr_H : Statement .rr_H := rfl
theorem rr_L : Statement .rr_L := rfl
theorem rr_mHL : Statement .rr_mHL := rfl
theorem rr_A : Statement .rr_A := rfl
theorem sla_B : Statement .sla_B := rfl
theorem sla_C : Statement .sla_C := rfl
theorem sla_D : Statement .sla_D := rfl
theorem sla_E : Statement .sla_E := rfl
theorem sla_H : Statement .sla_H := rfl
theorem sla_L : Statement .sla_L := rfl
theorem sla_mHL : Statement .sla_mHL := rfl
theorem sla_A : Statement .sla_A := rfl
theorem sra_B : Statement .sra_B := rfl
theorem sra_C : Statement .sra_C := rfl
theorem sra_D : Statement .sra_D := rfl
theorem sra_E : Statement .sra_E := rfl
theorem sra_H : Statement .sra_H := rfl
theorem sra_L : Statement .sra_L := rfl
theorem sra_mHL : Statement .sra_mHL := rfl
theorem sra_A : Statement .sra_A := rfl
theorem swap_B : Statement .swap_B := rfl
theorem swap_C : Statement .swap_C := rfl
theorem swap_D : Statement .swap_D := rfl
theorem swap_E : Statement .swap_E := rfl
theorem swap_H : Statement .swap_H := rfl
theorem swap_L : Statement .swap_L := rfl
theorem swap_mHL : Statement .swap_mHL := rfl
theorem swap_A : Statement .swap_A := rfl
theorem srl_B : Statement .srl_B := rfl
theorem srl_C : Statement .srl_C := rfl
theorem srl_D : Statement .srl_D := rfl
theorem srl_E : Statement .srl_E := rfl
theorem srl_H : Statement .srl_H := rfl
theorem srl_L : Statement .srl_L := rfl
theorem srl_mHL : Statement .srl_mHL := rfl
theorem srl_A : Statement .srl_A := rfl
theorem bit_0_B : Statement .bit_0_B := rfl
theorem bit_0_C : Statement .bit_0_C := rfl
theorem bit_0_D : Statement .bit_0_D := rfl
theorem bit_0_E : Statement .bit_0_E := rfl
theorem bit_0_H : Statement .bit_0_H := rfl
theorem bit_0_L : Statement .bit_0_L := rfl
theorem bit_0_mHL : Statement .bit_0_mHL := rfl
theorem bit_0_A : Statement .bit_0_A := rfl
theorem bit_1_B : Statement .bit_1_B := rfl
theorem bit_1_C : Statement .bit_1_C := rfl
theorem bit_1_D : Statement .bit_1_D := rfl
theorem bit_1_E : Statement .bit_1_E := rfl
theorem bit_1_H : Statement .bit_1_H := rfl
theorem bit_1_L : Statement .bit_1_L := rfl
theorem bit_1_mHL : Statement .bit_1_mHL := rfl
theorem bit_1_A : Statement .bit_1_A := rfl
theorem bit_2_B : Statement .bit_2_B := rfl
theorem bit_2_C : Statement .bit_2_C := rfl
theorem bit_2_D : Statement .bit_2_D := rfl
theorem bit_2_E : Statement .bit_2_E := rfl
theorem bit_2_H : Statement .bit_2_H := rfl
theorem bit_2_L : Statement .bit_2_L := rfl
theorem bit_2_mHL : Statement .bit_2_mHL := rfl
theorem bit_2_A : Statement .bit_2_A := rfl
theorem bit_3_B : Statement .bit_3_B := rfl
theorem bit_3_C : Statement .bit_3_C := rfl
theorem bit_3_D : Statement .bit_3_D := rfl
theorem bit_3_E : Statement .bit_3_E := rfl
theorem bit_3_H : Statement .bit_3_H := rfl
theorem bit_3_L : Statement .bit_3_L := rfl
theorem bit_3_mHL : Statement .bit_3_mHL := rfl
theorem bit_3_A : Statement .bit_3_A := rfl
theorem bit_4_B : Statement .bit_4_B := rfl
theorem bit_4_C : Statement .bit_4_C := rfl
theorem bit_4_D : Statement .bit_4_D := rfl
theorem bit_4_E : Statement .bit_4_E := rfl
theorem bit_4_H : Statement .bit_4_H := rfl
theorem bit_4_L : Statement .bit_4_L := rfl
theorem bit_4_mHL : Statement .bit_4_mHL := rfl
theorem bit_4_A : Statement .bit_4_A := rfl
theorem bit_5_B : Statement .bit_5_B := rfl
theorem bit_5_C : Statement .bit_5_C := rfl
theorem bit_5_D : Statement .bit_5_D := rfl
theorem bit_5_E : Statement .bit_5_E := rfl
theorem bit_5_H : Statement .bit_5_H := rfl
theorem bit_5_L : Statement .bit_5_L := rfl
theorem bit_5_mHL : Statement .bit_5_mHL := rfl
theorem bit_5_A : Statement .bit_5_A := rfl
theorem bit_6_B : Statement .bit_6_B := rfl
theorem bit_6_C : Statement .bit_6_C := rfl
theorem bit_6_D : Statement .bit_6_D := rfl
theorem bit_6_E : Statement .bit_6_E := rfl
theorem bit_6_H : Statement .bit_6_H := rfl
theorem bit_6_L : Statement .bit_6_L := rfl
theorem bit_6_mHL : Statement .bit_6_mHL := rfl
theorem bit_6_A : Statement .bit_6_A := rfl
theorem bit_7_B : Statement .bit_7_B := rfl
theorem bit_7_C : Statement .bit_7_C := rfl
theorem bit_7_D : Statement .bit_7_D := rfl
theorem bit_7_E : Statement .bit_7_E := rfl
theorem bit_7_H : Statement .bit_7_H := rfl
theorem bit_7_L : Statement .bit_7_L := rfl
theorem bit_7_mHL : Statement .bit_7_mHL := rfl
theorem bit_7_A : Statement .bit_7_A := rfl
theorem res_0_B : Statement .res_0_B := rfl
theorem res_0_C : Statement .res_0_C := rfl
theorem res_0_D : Statement .res_0_D := rfl
theorem res_0_E : Statement .res_0_E := rfl
theorem res_0_H : Statement .res_0_H := rfl
theorem res_0_L : Statement .res_0_L := rfl
theorem res_0_mHL : Statement .res_0_mHL := rfl
theorem res_0_A : Statement .res_0_A := rfl
theorem res_1_B : Statement .res_1_B := rfl
theorem res_1_C : Statement .res_1_C := rfl
theorem res_1_D : Statement .res_1_D := rfl
theorem res_1_E : Statement .res_1_E := rfl
theorem res_1_H : Statement .res_1_H := rfl
theorem res_1_L : Statement .res_1_L := rfl
theorem res_1_mHL : Statement .res_1_mHL := rfl
theorem res_1_A : Statement .res_1_A := rfl
theorem res_2_B : Statement .res_2_B := rfl
theorem res_2_C : Statement .res_2_C := rfl
theorem res_2_D : Statement .res_2_D := rfl
theorem res_2_E : Statement .res_2_E := rfl
theorem res_2_H : Statement .res_2_H := rfl
theorem res_2_L : Statement .res_2_L := rfl
theorem res_2_mHL : Statement .res_2_mHL := rfl
theorem res_2_A : Statement .res_2_A := rfl
theorem res_3_B : Statement .res_3_B := rfl
theorem res_3_C : Statement .res_3_C := rfl
theorem res_3_D : Statement .res_3_D := rfl
theorem res_3_E : Statement .res_3_E := rfl
theorem res_3_H : Statement .res_3_H := rfl
theorem res_3_L : Statement .res_3_L := rfl
theorem res_3_mHL : Statement .res_3_mHL := rfl
theorem res_3_A : Statement .res_3_A := rfl
theorem res_4_B : Statement .res_4_B := rfl
theorem res_4_C : Statement .res_4_C := rfl
theorem res_4_D : Statement .res_4_D := rfl
theorem res_4_E : Statement .res_4_E := rfl
theorem res_4_H : Statement .res_4_H := rfl
theorem res_4_L : Statement .res_4_L := rfl
theorem res_4_mHL : Statement .res_4_mHL := rfl
theorem res_4_A : Statement .res_4_A := rfl
theorem res_5_B : Statement .res_5_B := rfl
theorem res_5_C : Statement .res_5_C := rfl
theorem res_5_D : Statement .res_5_D := rfl
theorem res_5_E : Statement .res_5_E := rfl
theorem res_5_H : Statement .res_5_H := rfl
theorem res_5_L : Statement .res_5_L := rfl
theorem res_5_mHL : Statement .res_5_mHL := rfl
theorem res_5_A : Statement .res_5_A := rfl
theorem res_6_B : Statement .res_6_B := rfl
theorem res_6_C : Statement .res_6_C := rfl
theorem res_6_D : Statement .res_6_D := rfl
theorem res_6_E : Statement .res_6_E := rfl
theorem res_6_H : Statement .res_6_H := rfl
theorem res_6_L : Statement .res_6_L := rfl
theorem res_6_mHL : Statement .res_6_mHL := rfl
theorem res_6_A : Statement .res_6_A := rfl
theorem res_7_B : Statement .res_7_B := rfl
theorem res_7_C : Statement .res_7_C := rfl
theorem res_7_D : Statement .res_7_D := rfl
theorem res_7_E : Statement .res_7_E := rfl
theorem res_7_H : Statement .res_7_H := rfl
theorem res_7_L : Statement .res_7_L := rfl
theorem res_7_mHL : Statement .res_7_mHL := rfl
theorem res_7_A : Statement .res_7_A := rfl
theorem set_0_B : Statement .set_0_B := rfl
theorem set_0_C : Statement .set_0_C := rfl
theorem set_0_D : Statement .set_0_D := rfl
theorem set_0_E : Statement .set_0_E := rfl
theorem set_0_H : Statement .set_0_H := rfl
theorem set_0_L : Statement .set_0_L := rfl
theorem set_0_mHL : Statement .set_0_mHL := rfl
theorem set_0_A : Statement .set_0_A := rfl
theorem set_1_B : Statement .set_1_B := rfl
theorem set_1_C : Statement .set_1_C := rfl
theorem set_1_D : Statement .set_1_D := rfl
theorem set_1_E : Statement .set_1_E := rfl
theorem set_1_H : Statement .set_1_H := rfl
theorem set_1_L : Statement .set_1_L := rfl
theorem set_1_mHL : Statement .set_1_mHL := rfl
theorem set_1_A : Statement .set_1_A := rfl
theorem set_2_B : Statement .set_2_B := rfl
theorem set_2_C : Statement .set_2_C := rfl
theorem set_2_D : Statement .set_2_D := rfl
theorem set_2_E : Statement .set_2_E := rfl
theorem set_2_H : Statement .set_2_H := rfl
theorem set_2_L : Statement .set_2_L := rfl
theorem set_2_mHL : Statement .set_2_mHL := rfl
theorem set_2_A : Statement .set_2_A := rfl
theorem set_3_B : Statement .set_3_B := rfl
theorem set_3_C : Statement .set_3_C := rfl
theorem set_3_D : Statement .set_3_D := rfl
theorem set_3_E : Statement .set_3_E := rfl
theorem set_3_H : Statement .set_3_H := rfl
theorem set_3_L : Statement .set_3_L := rfl
theorem set_3_mHL : Statement .set_3_mHL := rfl
theorem set_3_A : Statement .set_3_A := rfl
theorem set_4_B : Statement .set_4_B := rfl
theorem set_4_C : Statement .set_4_C := rfl
theorem set_4_D : Statement .set_4_D := rfl
theorem set_4_E : Statement .set_4_E := rfl
theorem set_4_H : Statement .set_4_H := rfl
theorem set_4_L : Statement .set_4_L := rfl
theorem set_4_mHL : Statement .set_4_mHL := rfl
theorem set_4_A : Statement .set_4_A := rfl
theorem set_5_B : Statement .set_5_B := rfl
theorem set_5_C : Statement .set_5_C := rfl
theorem set_5_D : Statement .set_5_D := rfl
theorem set_5_E : Statement .set_5_E := rfl
theorem set_5_H : Statement .set_5_H := rfl
theorem set_5_L : Statement .set_5_L := rfl
theorem set_5_mHL : Statement .set_5_mHL := rfl
theorem set_5_A : Statement .set_5_A := rfl
theorem set_6_B : Statement .set_6_B := rfl
theorem set_6_C : Statement .set_6_C := rfl
theorem set_6_D : Statement .set_6_D := rfl
theorem set_6_E : Statement .set_6_E := rfl
theorem set_6_H : Statement .set_6_H := rfl
theorem set_6_L : Statement .set_6_L := rfl
theorem set_6_mHL : Statement .set_6_mHL := rfl
theorem set_6_A : Statement .set_6_A := rfl
theorem set_7_B : Statement .set_7_B := rfl
theorem set_7_C : Statement .set_7_C := rfl
theorem set_7_D : Statement .set_7_D := rfl
theorem set_7_E : Statement .set_7_E := rfl
theorem set_7_H : Statement .set_7_H := rfl
theorem set_7_L : Statement .set_7_L := rfl
theorem set_7_mHL : Statement .set_7_mHL := rfl
theorem set_7_A : Statement .set_7_A := rfl

end Sys2Proof.Laws.Encoding
end

