-- ==== Sys2Proof/Laws/Results.lean ====
section
/-! SUPPORT. From the shape of a meaning to what it does: one lemma per form of Safety.lean, and the arithmetic that
the statements and the meanings write differently. -/

namespace Sys2Proof.Machine

variable {i : Instr} {s : State}

theorem loads_of {a : Word} {g : Byte → RegFile}
    (h : exec i s = withRead s s a fun v => .next (s.doneWith (g v) (s.cost i.opcode))) : Loads i s a g := by
  refine ⟨fun v hv => ?_, fun e he => ?_⟩
  · rw [Completes, h, withRead_ok hv]
  · rw [Faults, h, withRead_error he]; rfl

/-- A write from the state with PC moved on is the write from the start, PC moved on after it. -/
theorem busWrite_skip (x : State) (n : Nat) (a : Word) (v : Byte) :
    (x.skip n).busWrite a v =
      (x.busWrite a v).map fun t => t.mapRegs fun g => { g with pc := x.regs.pc + BitVec.ofNat 16 n } :=
  busWrite_mapRegs _ _ _ _

theorem stores_of_storeByte {a : Word} {v : Byte} {n : Nat} (h : exec i s = storeByte i.opcode n a v s) :
    Stores i s a v (s.regs.past n) := by
  refine ⟨fun t hv => ?_, fun e he => ?_⟩
  · rw [h, storeByte, withWrite_ok (by rw [busWrite_skip, hv]; rfl)]
    simp only [complete, State.doneWith, State.mapRegs, RegFile.past, (busWrite_ok hv).regs]
  · rw [Faults, h, storeByte, withWrite_error (f := e) (by rw [busWrite_skip, he]; rfl)]; rfl

theorem stores_of_storeAccStep {d : Word} (h : exec i s = storeAccStep i.opcode d s) :
    Stores i s s.regs.hl s.regs.a ((s.regs.past 1).set16 .hl (s.regs.hl + d)) := by
  refine ⟨fun t hv => ?_, fun e he => ?_⟩
  · rw [h, storeAccStep, withWrite_ok (by rw [busWrite_skip, hv]; rfl)]
    simp only [complete, State.doneWith, State.mapRegs, State.set16, RegFile.past, (busWrite_ok hv).regs]
  · rw [Faults, h, storeAccStep, withWrite_error (f := e) (by rw [busWrite_skip, he]; rfl)]; rfl

theorem storesTwo_of {a b : Word} {v w : Byte} {n : Nat} {g : RegFile} {k : State → Exec}
    (h : exec i s = withWrite s (s.skip n) a v fun t => withWrite s t b w fun u => k u)
    (hk : ∀ u : State, u.regs = s.regs →
      k (u.mapRegs fun g => { g with pc := s.regs.pc + BitVec.ofNat 16 n }) = .next (u.doneWith g (s.cost i.opcode))) :
    StoresTwo i s a v b w g := by
  refine ⟨fun t u h1 h2 => ?_, fun e he => ?_, fun t e h1 h2 => ?_⟩
  · rw [h, withWrite_ok (by rw [busWrite_skip, h1]; rfl), withWrite_ok (by rw [busWrite_mapRegs, h2]; rfl)]
    exact hk u ((busWrite_ok h2).regs.trans (busWrite_ok h1).regs)
  · rw [Faults, h, withWrite_error (f := e) (by rw [busWrite_skip, he]; rfl)]; rfl
  · rw [h, withWrite_ok (by rw [busWrite_skip, h1]; rfl), withWrite_error (f := e) (by rw [busWrite_mapRegs, h2]; rfl)]
    have hw := busWrite_ok h1
    simp only [State.raise, State.stopped, State.mapRegs, hw.regs, hw.ime, hw.imePend]

theorem pushes_of {v : Word} {n : Nat} {g : RegFile} {k : State → Exec} (h : exec i s = push16 s (s.skip n) v k)
    (hk : ∀ u : State, u.regs = s.regs →
      k ((u.mapRegs fun g => { g with pc := s.regs.pc + BitVec.ofNat 16 n }).setSp (s.regs.sp - 2#16)) =
        .next (u.doneWith { g with sp := s.regs.sp - 2#16 } (s.cost i.opcode))) : Pushes i s v g :=
  storesTwo_of (n := n) (k := fun u => k (u.setSp (s.regs.sp - 2#16))) h hk

theorem pops_of {n : Nat} {t : Word → State} {k : Word → State → Exec} (h : exec i s = pop16 s (s.skip n) k)
    (hk : ∀ v, k v ((s.skip n).setSp (s.regs.sp + 2#16)) = .next ((t v).retire (s.cost i.opcode))) : Pops i s t := by
  refine ⟨fun lo hi h1 h2 => ?_, fun e he => ?_, fun lo e h1 h2 => ?_⟩
  · rw [h, pop16_ok (now := s.skip n) (lo := lo) (hi := hi) h1 h2]; exact hk _
  · rw [Faults, h, pop16_error_low (now := s.skip n) he]; rfl
  · rw [Faults, h, pop16_error_high (now := s.skip n) h1 h2]; rfl

theorem operates_of {x : Src8} {g : Byte → RegFile}
    (h : exec i s = withSrc s s x fun v => .next (s.doneWith (g v) (s.cost i.opcode))) : Operates i s x g := by
  cases x with
  | reg r =>
    refine ⟨fun v hv => ?_, fun e he => by cases he⟩
    cases hv
    exact h
  | mHL =>
    refine ⟨fun v hv => ?_, fun e he => ?_⟩
    · rw [Completes, h, withSrc, withRead_ok hv]
    · rw [Faults, h, withSrc, withRead_error he]; rfl

theorem aluForms_of {f : AluOp} {out : Byte → RegFile → RegFile}
    (h : ∀ (g : RegFile) v, g.aluResult f v = out v g) : AluForms f s out := by
  refine ⟨fun x => operates_of ?_, fun n => ?_⟩
  · rw [exec_alu]; simp only [← h]; rfl
  · rw [Completes, exec_aluImm, ← h]; rfl

theorem modifies_of {n : Nat} {x : Src8} {res : Byte → Byte} {flags : Byte → RegFile → RegFile}
    (h : exec i s = withSrc s s x fun v => withDst s (s.skip n) x (res v) fun t =>
      complete (t.mapRegs (flags v)) (s.cost i.opcode)) : Modifies i s n x res flags := by
  cases x with
  | reg r => exact h
  | mHL =>
    refine ⟨fun v t h1 h2 => ?_, fun e he => ?_, fun v e h1 h2 => ?_⟩
    · rw [h, withSrc, withRead_ok h1, withDst, withWrite_ok (by
        rw [busWrite_skip]; show (s.busWrite s.regs.hl (res v)).map _ = _; rw [h2]; rfl)]
      simp only [complete, State.doneWith, State.mapRegs, RegFile.past, (busWrite_ok h2).regs]
    · rw [Faults, h, withSrc, withRead_error he]; rfl
    · rw [Faults, h, withSrc, withRead_ok h1, withDst, withWrite_error (f := e) (by
        rw [busWrite_skip]; show (s.busWrite s.regs.hl (res v)).map _ = _; rw [h2]; rfl)]; rfl

/-! ## Arithmetic -/

theorem ofNat_add_carry (a v : Byte) (c : Bool) : BitVec.ofNat 8 (a.toNat + v.toNat + b2n c) = a + v + bitByte c := by
  apply BitVec.eq_of_toNat_eq
  cases c <;> simp [b2n, bitByte]

theorem ofInt_sub_borrow (a v : Byte) (c : Bool) :
    BitVec.ofInt 8 ((a.toNat : Int) - v.toNat - (b2n c : Int)) = a - v - bitByte c := by
  have h : ∀ x : Byte, BitVec.ofInt 8 (x.toNat : Int) = x := fun x => by simp
  rw [Int.sub_eq_add_neg, Int.sub_eq_add_neg, BitVec.ofInt_add, BitVec.ofInt_add, BitVec.ofInt_neg, BitVec.ofInt_neg,
    h, h, BitVec.sub_eq_add_neg, BitVec.sub_eq_add_neg]
  cases c <;> rfl

/-- A displacement added to a word is its operand byte sign-extended (R102). -/
theorem dispWord_toInt (n : Byte) : dispWord n.toInt = n.signExtend 16 := by
  simp [dispWord, BitVec.signExtend]

@[simp] theorem dispByte_toInt (n : Byte) : dispByte n.toInt = n := by simp [dispByte]

/-- The six functions and the two shifts of R230, as the model computes them. -/
theorem rotated_eq (f : RotOp) (v : Byte) (c : Bool) : rotated f v c = ((rotFn f v c).res, (rotFn f v c).out) := by
  revert v c
  cases f <;> decide

end Sys2Proof.Machine
end

