-- ==== Sys2Proof/Laws/Step.lean ====
section
/-! SUPPORT. What a step can do, and what the stores of an instruction leave alone. -/

namespace Sys2Proof.Machine

/-- The next state of an instruction is one of `Effect`. -/
theorem effect_of {i : Instr} {s t : State} (h : exec i s = .next t) : Effect i s t := by
  obtain ⟨t', h', e⟩ := exec_ends i s
  rw [h] at h'
  cases h'
  exact e

theorem retire_ppu_registers (u : State) (c : Nat) :
    (u.retire c).ppu.lcdc = u.ppu.lcdc ∧ (u.retire c).ppu.scy = u.ppu.scy ∧ (u.retire c).ppu.bgp = u.ppu.bgp :=
  advance_registers _ _

/-- What stores at the first few addresses of a list leave alone. -/
structure StoreFrame (as : List Word) (s u : State) : Prop where
  mem : ∀ a : Word, a ∉ as → Memory.read u.mem a.toNat = Memory.read s.mem a.toNat
  lcdc : 0xFF40#16 ∉ as → u.ppu.lcdc = s.ppu.lcdc
  scy : 0xFF42#16 ∉ as → u.ppu.scy = s.ppu.scy
  bgp : 0xFF47#16 ∉ as → u.ppu.bgp = s.ppu.bgp
  latch : 0xFF50#16 ∉ as → u.bootLatch = s.bootLatch
  mode : u.ppu.mode = s.ppu.mode
  countdown : u.ppu.countdown = s.ppu.countdown
  ly : u.ppu.ly = s.ppu.ly
  fb : u.ppu.fb = s.ppu.fb
  framesOut : u.ppu.framesOut = s.ppu.framesOut
  latchOff : u.bootLatch = true → s.bootLatch = true
  memOk : memOk s.mem = true → memOk u.mem = true
  ppuWf : s.ppu.wf = true → u.ppu.wf = true

theorem Wrote.storeFrame {as : List Word} {s u : State} (w : Wrote as s u) : StoreFrame as s u := by
  induction w with
  | stop => constructor <;> first | intros; rfl | exact id
  | @write a as v s u t hw rest ih =>
    have hs := busWrite_ok hw
    have hp := hs.ppu
    constructor
    · intro b hb
      simp only [List.mem_cons, not_or] at hb
      rw [ih.mem b hb.2]
      rcases hs.mem with hm | ⟨_, hm⟩
      · rw [hm]
      · rw [hm, Memory.read_write_other]
        exact fun e => hb.1 (BitVec.eq_of_toNat_eq e)
    · intro hb
      simp only [List.mem_cons, not_or] at hb
      rw [ih.lcdc hb.2, hp]
      simp [Ne.symm hb.1]
    · intro hb
      simp only [List.mem_cons, not_or] at hb
      rw [ih.scy hb.2, hp]
      simp [Ne.symm hb.1]
    · intro hb
      simp only [List.mem_cons, not_or] at hb
      rw [ih.bgp hb.2, hp]
      simp [Ne.symm hb.1]
    · intro hb
      simp only [List.mem_cons, not_or] at hb
      rw [ih.latch hb.2]
      rcases hs.latch with h | h
      · exact h.1
      · exact absurd h.2.symm hb.1
    · rw [ih.mode, hp]
    · rw [ih.countdown, hp]
    · rw [ih.ly, hp]
    · rw [ih.fb, hp]
    · rw [ih.framesOut, hp]
    · intro hb
      have hu := ih.latchOff hb
      rcases hs.latch with h | h
      · rw [← h.1]; exact hu
      · rw [h.1] at hu; cases hu
    · intro hb
      apply ih.memOk
      rcases hs.mem with hm | ⟨hr, hm⟩ <;> rw [hm]
      · exact hb
      · simp only [Sys2Proof.Machine.memOk, Bool.and_eq_true] at hb ⊢
        exact ⟨Memory.write_wf hb.1 _ _, Memory.write_all (p := ramAddr) hb.2 hr _⟩
    · intro hb
      apply ih.ppuWf
      rw [hp]
      exact hb

/-- The two instructions that halt (R402). -/
theorem halts_iff (i : Instr) : i.halts = true ↔ i = .halt ∨ ∃ n, i = .stop n := by
  constructor
  · intro h
    cases i <;> first | exact .inl rfl | exact .inr ⟨_, rfl⟩ | cases h
  · rintro (rfl | ⟨n, rfl⟩) <;> rfl

/-- The start-of-step action touches `ime` and `ime_pend` alone (R397). -/
theorem startOfStep_frame (s : State) :
    s.startOfStep.mem = s.mem ∧ s.startOfStep.ppu = s.ppu ∧ s.startOfStep.cfg = s.cfg ∧
      s.startOfStep.bootLatch = s.bootLatch ∧ s.startOfStep.cyclesTotal = s.cyclesTotal ∧ s.startOfStep.regs = s.regs ∧
      s.startOfStep.status = s.status := by
  unfold State.startOfStep
  split <;> simp

/-- A step stands still, takes a fault of the fetch, or is an instruction (R396 to R398). -/
theorem step_cases {s t : State} (h : step s = .next t) :
    (t = s ∧ s.status ≠ .running) ∨
      (s.status = .running ∧ ∃ f, s.startOfStep.fetch = .error f ∧ t = State.raise s.startOfStep s.startOfStep f) ∨
      (s.status = .running ∧ ∃ i, s.startOfStep.fetch = .ok i ∧ exec i s.startOfStep = .next t) := by
  unfold step at h
  split at h <;> rename_i hs
  · cases h; exact .inl ⟨rfl, by simp [hs]⟩
  · cases h; exact .inl ⟨rfl, by simp [hs]⟩
  · split at h
    · cases h
    · split at h <;> rename_i hf
      · cases h; exact .inr (.inl ⟨hs, _, hf, rfl⟩)
      · exact .inr (.inr ⟨hs, _, hf, h⟩)

end Sys2Proof.Machine
end

