-- ==== Sys2Proof/Tests/Slice0.lean ====
section
/-! SUPPORT. The model's own tests: ill-formed instructions are refused, the words of spec/opcode_table.json decode to
their instructions, single steps give what spec/95_test_vectors.md gives, and every hypothesis of a statement is met by
something. Each test's comment names where its expected result comes from. -/

namespace Sys2Proof.Tests

open Sys2Proof.Machine

/-! ## Well-formedness (R102: a displacement lies in -128 to +127) -/

theorem test_wf_jr_e : Instr.wellFormed (.jr_e 128) = false ∧ Instr.wellFormed (.jr_e (-129)) = false ∧
    Instr.wellFormed (.jr_e 127) = true ∧ Instr.wellFormed (.jr_e (-128)) = true := by decide
theorem test_wf_jr_NZ_e : Instr.wellFormed (.jr_NZ_e 128) = false ∧ Instr.wellFormed (.jr_NZ_e (-129)) = false ∧
    Instr.wellFormed (.jr_NZ_e 127) = true ∧ Instr.wellFormed (.jr_NZ_e (-128)) = true := by decide
theorem test_wf_jr_Z_e : Instr.wellFormed (.jr_Z_e 128) = false ∧ Instr.wellFormed (.jr_Z_e (-129)) = false ∧
    Instr.wellFormed (.jr_Z_e 127) = true ∧ Instr.wellFormed (.jr_Z_e (-128)) = true := by decide
theorem test_wf_jr_NC_e : Instr.wellFormed (.jr_NC_e 128) = false ∧ Instr.wellFormed (.jr_NC_e (-129)) = false ∧
    Instr.wellFormed (.jr_NC_e 127) = true ∧ Instr.wellFormed (.jr_NC_e (-128)) = true := by decide
theorem test_wf_jr_C_e : Instr.wellFormed (.jr_C_e 128) = false ∧ Instr.wellFormed (.jr_C_e (-129)) = false ∧
    Instr.wellFormed (.jr_C_e 127) = true ∧ Instr.wellFormed (.jr_C_e (-128)) = true := by decide
theorem test_wf_add_SP_e : Instr.wellFormed (.add_SP_e 128) = false ∧ Instr.wellFormed (.add_SP_e (-129)) = false ∧
    Instr.wellFormed (.add_SP_e 127) = true ∧ Instr.wellFormed (.add_SP_e (-128)) = true := by decide
theorem test_wf_ld_HL_SPe : Instr.wellFormed (.ld_HL_SPe 128) = false ∧ Instr.wellFormed (.ld_HL_SPe (-129)) = false ∧
    Instr.wellFormed (.ld_HL_SPe 127) = true ∧ Instr.wellFormed (.ld_HL_SPe (-128)) = true := by decide

/-! ## Decoding: every row of spec/opcode_table.json, its `encoding` column written out bit by bit

The operand bytes are 34 and 12 (n = 34, nn = 1234: the low byte first, R102) and FB (e = -5). -/

/-- The bytes decode to the instruction, with nothing left over. -/
def decodesTo (bytes : List Byte) (i : Instr) : Bool :=
  match decode bytes with
  | .ok (j, []) => decide (j = i)
  | .ok (_, _ :: _) => false
  | .error _ => false

/-- Every row of a table decodes. -/
def allDecode (rows : List (List Byte × Instr)) : Bool := rows.all fun r => decodesTo r.1 r.2

theorem test_decode_0x : allDecode [
    ([0b00000000#8], .nop),
    ([0b00000001#8, 0x34#8, 0x12#8], .ld_BC_nn 0x1234#16),
    ([0b00000010#8], .ld_mBC_A),
    ([0b00000011#8], .inc_BC),
    ([0b00000100#8], .inc_B),
    ([0b00000101#8], .dec_B),
    ([0b00000110#8, 0x34#8], .ld_B_n 0x34#8),
    ([0b00000111#8], .rlca),
    ([0b00001000#8, 0x34#8, 0x12#8], .ld_mnn_SP 0x1234#16),
    ([0b00001001#8], .add_HL_BC),
    ([0b00001010#8], .ld_A_mBC),
    ([0b00001011#8], .dec_BC),
    ([0b00001100#8], .inc_C),
    ([0b00001101#8], .dec_C),
    ([0b00001110#8, 0x34#8], .ld_C_n 0x34#8),
    ([0b00001111#8], .rrca)] = true := by decide
theorem test_decode_1x : allDecode [
    ([0b00010000#8, 0x34#8], .stop 0x34#8),
    ([0b00010001#8, 0x34#8, 0x12#8], .ld_DE_nn 0x1234#16),
    ([0b00010010#8], .ld_mDE_A),
    ([0b00010011#8], .inc_DE),
    ([0b00010100#8], .inc_D),
    ([0b00010101#8], .dec_D),
    ([0b00010110#8, 0x34#8], .ld_D_n 0x34#8),
    ([0b00010111#8], .rla),
    ([0b00011000#8, 0xFB#8], .jr_e (-5)),
    ([0b00011001#8], .add_HL_DE),
    ([0b00011010#8], .ld_A_mDE),
    ([0b00011011#8], .dec_DE),
    ([0b00011100#8], .inc_E),
    ([0b00011101#8], .dec_E),
    ([0b00011110#8, 0x34#8], .ld_E_n 0x34#8),
    ([0b00011111#8], .rra)] = true := by decide
theorem test_decode_2x : allDecode [
    ([0b00100000#8, 0xFB#8], .jr_NZ_e (-5)),
    ([0b00100001#8, 0x34#8, 0x12#8], .ld_HL_nn 0x1234#16),
    ([0b00100010#8], .ld_mHLinc_A),
    ([0b00100011#8], .inc_HL),
    ([0b00100100#8], .inc_H),
    ([0b00100101#8], .dec_H),
    ([0b00100110#8, 0x34#8], .ld_H_n 0x34#8),
    ([0b00100111#8], .daa),
    ([0b00101000#8, 0xFB#8], .jr_Z_e (-5)),
    ([0b00101001#8], .add_HL_HL),
    ([0b00101010#8], .ld_A_mHLinc),
    ([0b00101011#8], .dec_HL),
    ([0b00101100#8], .inc_L),
    ([0b00101101#8], .dec_L),
    ([0b00101110#8, 0x34#8], .ld_L_n 0x34#8),
    ([0b00101111#8], .cpl)] = true := by decide
theorem test_decode_3x : allDecode [
    ([0b00110000#8, 0xFB#8], .jr_NC_e (-5)),
    ([0b00110001#8, 0x34#8, 0x12#8], .ld_SP_nn 0x1234#16),
    ([0b00110010#8], .ld_mHLdec_A),
    ([0b00110011#8], .inc_SP),
    ([0b00110100#8], .inc_mHL),
    ([0b00110101#8], .dec_mHL),
    ([0b00110110#8, 0x34#8], .ld_mHL_n 0x34#8),
    ([0b00110111#8], .scf),
    ([0b00111000#8, 0xFB#8], .jr_C_e (-5)),
    ([0b00111001#8], .add_HL_SP),
    ([0b00111010#8], .ld_A_mHLdec),
    ([0b00111011#8], .dec_SP),
    ([0b00111100#8], .inc_A),
    ([0b00111101#8], .dec_A),
    ([0b00111110#8, 0x34#8], .ld_A_n 0x34#8),
    ([0b00111111#8], .ccf)] = true := by decide
theorem test_decode_4x : allDecode [
    ([0b01000000#8], .ld_B_B),
    ([0b01000001#8], .ld_B_C),
    ([0b01000010#8], .ld_B_D),
    ([0b01000011#8], .ld_B_E),
    ([0b01000100#8], .ld_B_H),
    ([0b01000101#8], .ld_B_L),
    ([0b01000110#8], .ld_B_mHL),
    ([0b01000111#8], .ld_B_A),
    ([0b01001000#8], .ld_C_B),
    ([0b01001001#8], .ld_C_C),
    ([0b01001010#8], .ld_C_D),
    ([0b01001011#8], .ld_C_E),
    ([0b01001100#8], .ld_C_H),
    ([0b01001101#8], .ld_C_L),
    ([0b01001110#8], .ld_C_mHL),
    ([0b01001111#8], .ld_C_A)] = true := by decide
theorem test_decode_5x : allDecode [
    ([0b01010000#8], .ld_D_B),
    ([0b01010001#8], .ld_D_C),
    ([0b01010010#8], .ld_D_D),
    ([0b01010011#8], .ld_D_E),
    ([0b01010100#8], .ld_D_H),
    ([0b01010101#8], .ld_D_L),
    ([0b01010110#8], .ld_D_mHL),
    ([0b01010111#8], .ld_D_A),
    ([0b01011000#8], .ld_E_B),
    ([0b01011001#8], .ld_E_C),
    ([0b01011010#8], .ld_E_D),
    ([0b01011011#8], .ld_E_E),
    ([0b01011100#8], .ld_E_H),
    ([0b01011101#8], .ld_E_L),
    ([0b01011110#8], .ld_E_mHL),
    ([0b01011111#8], .ld_E_A)] = true := by decide
theorem test_decode_6x : allDecode [
    ([0b01100000#8], .ld_H_B),
    ([0b01100001#8], .ld_H_C),
    ([0b01100010#8], .ld_H_D),
    ([0b01100011#8], .ld_H_E),
    ([0b01100100#8], .ld_H_H),
    ([0b01100101#8], .ld_H_L),
    ([0b01100110#8], .ld_H_mHL),
    ([0b01100111#8], .ld_H_A),
    ([0b01101000#8], .ld_L_B),
    ([0b01101001#8], .ld_L_C),
    ([0b01101010#8], .ld_L_D),
    ([0b01101011#8], .ld_L_E),
    ([0b01101100#8], .ld_L_H),
    ([0b01101101#8], .ld_L_L),
    ([0b01101110#8], .ld_L_mHL),
    ([0b01101111#8], .ld_L_A)] = true := by decide
theorem test_decode_7x : allDecode [
    ([0b01110000#8], .ld_mHL_B),
    ([0b01110001#8], .ld_mHL_C),
    ([0b01110010#8], .ld_mHL_D),
    ([0b01110011#8], .ld_mHL_E),
    ([0b01110100#8], .ld_mHL_H),
    ([0b01110101#8], .ld_mHL_L),
    ([0b01110110#8], .halt),
    ([0b01110111#8], .ld_mHL_A),
    ([0b01111000#8], .ld_A_B),
    ([0b01111001#8], .ld_A_C),
    ([0b01111010#8], .ld_A_D),
    ([0b01111011#8], .ld_A_E),
    ([0b01111100#8], .ld_A_H),
    ([0b01111101#8], .ld_A_L),
    ([0b01111110#8], .ld_A_mHL),
    ([0b01111111#8], .ld_A_A)] = true := by decide
theorem test_decode_8x : allDecode [
    ([0b10000000#8], .add_A_B),
    ([0b10000001#8], .add_A_C),
    ([0b10000010#8], .add_A_D),
    ([0b10000011#8], .add_A_E),
    ([0b10000100#8], .add_A_H),
    ([0b10000101#8], .add_A_L),
    ([0b10000110#8], .add_A_mHL),
    ([0b10000111#8], .add_A_A),
    ([0b10001000#8], .adc_A_B),
    ([0b10001001#8], .adc_A_C),
    ([0b10001010#8], .adc_A_D),
    ([0b10001011#8], .adc_A_E),
    ([0b10001100#8], .adc_A_H),
    ([0b10001101#8], .adc_A_L),
    ([0b10001110#8], .adc_A_mHL),
    ([0b10001111#8], .adc_A_A)] = true := by decide
theorem test_decode_9x : allDecode [
    ([0b10010000#8], .sub_B),
    ([0b10010001#8], .sub_C),
    ([0b10010010#8], .sub_D),
    ([0b10010011#8], .sub_E),
    ([0b10010100#8], .sub_H),
    ([0b10010101#8], .sub_L),
    ([0b10010110#8], .sub_mHL),
    ([0b10010111#8], .sub_A),
    ([0b10011000#8], .sbc_A_B),
    ([0b10011001#8], .sbc_A_C),
    ([0b10011010#8], .sbc_A_D),
    ([0b10011011#8], .sbc_A_E),
    ([0b10011100#8], .sbc_A_H),
    ([0b10011101#8], .sbc_A_L),
    ([0b10011110#8], .sbc_A_mHL),
    ([0b10011111#8], .sbc_A_A)] = true := by decide
theorem test_decode_Ax : allDecode [
    ([0b10100000#8], .and_B),
    ([0b10100001#8], .and_C),
    ([0b10100010#8], .and_D),
    ([0b10100011#8], .and_E),
    ([0b10100100#8], .and_H),
    ([0b10100101#8], .and_L),
    ([0b10100110#8], .and_mHL),
    ([0b10100111#8], .and_A),
    ([0b10101000#8], .xor_B),
    ([0b10101001#8], .xor_C),
    ([0b10101010#8], .xor_D),
    ([0b10101011#8], .xor_E),
    ([0b10101100#8], .xor_H),
    ([0b10101101#8], .xor_L),
    ([0b10101110#8], .xor_mHL),
    ([0b10101111#8], .xor_A)] = true := by decide
theorem test_decode_Bx : allDecode [
    ([0b10110000#8], .or_B),
    ([0b10110001#8], .or_C),
    ([0b10110010#8], .or_D),
    ([0b10110011#8], .or_E),
    ([0b10110100#8], .or_H),
    ([0b10110101#8], .or_L),
    ([0b10110110#8], .or_mHL),
    ([0b10110111#8], .or_A),
    ([0b10111000#8], .cp_B),
    ([0b10111001#8], .cp_C),
    ([0b10111010#8], .cp_D),
    ([0b10111011#8], .cp_E),
    ([0b10111100#8], .cp_H),
    ([0b10111101#8], .cp_L),
    ([0b10111110#8], .cp_mHL),
    ([0b10111111#8], .cp_A)] = true := by decide
theorem test_decode_Cx : allDecode [
    ([0b11000000#8], .ret_NZ),
    ([0b11000001#8], .pop_BC),
    ([0b11000010#8, 0x34#8, 0x12#8], .jp_NZ_nn 0x1234#16),
    ([0b11000011#8, 0x34#8, 0x12#8], .jp_nn 0x1234#16),
    ([0b11000100#8, 0x34#8, 0x12#8], .call_NZ_nn 0x1234#16),
    ([0b11000101#8], .push_BC),
    ([0b11000110#8, 0x34#8], .add_A_n 0x34#8),
    ([0b11000111#8], .rst_00H),
    ([0b11001000#8], .ret_Z),
    ([0b11001001#8], .ret),
    ([0b11001010#8, 0x34#8, 0x12#8], .jp_Z_nn 0x1234#16),
    ([0b11001100#8, 0x34#8, 0x12#8], .call_Z_nn 0x1234#16),
    ([0b11001101#8, 0x34#8, 0x12#8], .call_nn 0x1234#16),
    ([0b11001110#8, 0x34#8], .adc_A_n 0x34#8),
    ([0b11001111#8], .rst_08H)] = true := by decide
theorem test_decode_Dx : allDecode [
    ([0b11010000#8], .ret_NC),
    ([0b11010001#8], .pop_DE),
    ([0b11010010#8, 0x34#8, 0x12#8], .jp_NC_nn 0x1234#16),
    ([0b11010011#8], .undefined_D3),
    ([0b11010100#8, 0x34#8, 0x12#8], .call_NC_nn 0x1234#16),
    ([0b11010101#8], .push_DE),
    ([0b11010110#8, 0x34#8], .sub_n 0x34#8),
    ([0b11010111#8], .rst_10H),
    ([0b11011000#8], .ret_C),
    ([0b11011001#8], .reti),
    ([0b11011010#8, 0x34#8, 0x12#8], .jp_C_nn 0x1234#16),
    ([0b11011011#8], .undefined_DB),
    ([0b11011100#8, 0x34#8, 0x12#8], .call_C_nn 0x1234#16),
    ([0b11011101#8], .undefined_DD),
    ([0b11011110#8, 0x34#8], .sbc_A_n 0x34#8),
    ([0b11011111#8], .rst_18H)] = true := by decide
theorem test_decode_Ex : allDecode [
    ([0b11100000#8, 0x34#8], .ldh_ion_A 0x34#8),
    ([0b11100001#8], .pop_HL),
    ([0b11100010#8], .ld_ioC_A),
    ([0b11100011#8], .undefined_E3),
    ([0b11100100#8], .undefined_E4),
    ([0b11100101#8], .push_HL),
    ([0b11100110#8, 0x34#8], .and_n 0x34#8),
    ([0b11100111#8], .rst_20H),
    ([0b11101000#8, 0xFB#8], .add_SP_e (-5)),
    ([0b11101001#8], .jp_HL),
    ([0b11101010#8, 0x34#8, 0x12#8], .ld_mnn_A 0x1234#16),
    ([0b11101011#8], .undefined_EB),
    ([0b11101100#8], .undefined_EC),
    ([0b11101101#8], .undefined_ED),
    ([0b11101110#8, 0x34#8], .xor_n 0x34#8),
    ([0b11101111#8], .rst_28H)] = true := by decide
theorem test_decode_Fx : allDecode [
    ([0b11110000#8, 0x34#8], .ldh_A_ion 0x34#8),
    ([0b11110001#8], .pop_AF),
    ([0b11110010#8], .ld_A_ioC),
    ([0b11110011#8], .di),
    ([0b11110100#8], .undefined_F4),
    ([0b11110101#8], .push_AF),
    ([0b11110110#8, 0x34#8], .or_n 0x34#8),
    ([0b11110111#8], .rst_30H),
    ([0b11111000#8, 0xFB#8], .ld_HL_SPe (-5)),
    ([0b11111001#8], .ld_SP_HL),
    ([0b11111010#8, 0x34#8, 0x12#8], .ld_A_mnn 0x1234#16),
    ([0b11111011#8], .ei),
    ([0b11111100#8], .undefined_FC),
    ([0b11111101#8], .undefined_FD),
    ([0b11111110#8, 0x34#8], .cp_n 0x34#8),
    ([0b11111111#8], .rst_38H)] = true := by decide
theorem test_decode_CB_0x : allDecode [
    ([0b11001011#8, 0b00000000#8], .rlc_B),
    ([0b11001011#8, 0b00000001#8], .rlc_C),
    ([0b11001011#8, 0b00000010#8], .rlc_D),
    ([0b11001011#8, 0b00000011#8], .rlc_E),
    ([0b11001011#8, 0b00000100#8], .rlc_H),
    ([0b11001011#8, 0b00000101#8], .rlc_L),
    ([0b11001011#8, 0b00000110#8], .rlc_mHL),
    ([0b11001011#8, 0b00000111#8], .rlc_A),
    ([0b11001011#8, 0b00001000#8], .rrc_B),
    ([0b11001011#8, 0b00001001#8], .rrc_C),
    ([0b11001011#8, 0b00001010#8], .rrc_D),
    ([0b11001011#8, 0b00001011#8], .rrc_E),
    ([0b11001011#8, 0b00001100#8], .rrc_H),
    ([0b11001011#8, 0b00001101#8], .rrc_L),
    ([0b11001011#8, 0b00001110#8], .rrc_mHL),
    ([0b11001011#8, 0b00001111#8], .rrc_A)] = true := by decide
theorem test_decode_CB_1x : allDecode [
    ([0b11001011#8, 0b00010000#8], .rl_B),
    ([0b11001011#8, 0b00010001#8], .rl_C),
    ([0b11001011#8, 0b00010010#8], .rl_D),
    ([0b11001011#8, 0b00010011#8], .rl_E),
    ([0b11001011#8, 0b00010100#8], .rl_H),
    ([0b11001011#8, 0b00010101#8], .rl_L),
    ([0b11001011#8, 0b00010110#8], .rl_mHL),
    ([0b11001011#8, 0b00010111#8], .rl_A),
    ([0b11001011#8, 0b00011000#8], .rr_B),
    ([0b11001011#8, 0b00011001#8], .rr_C),
    ([0b11001011#8, 0b00011010#8], .rr_D),
    ([0b11001011#8, 0b00011011#8], .rr_E),
    ([0b11001011#8, 0b00011100#8], .rr_H),
    ([0b11001011#8, 0b00011101#8], .rr_L),
    ([0b11001011#8, 0b00011110#8], .rr_mHL),
    ([0b11001011#8, 0b00011111#8], .rr_A)] = true := by decide
theorem test_decode_CB_2x : allDecode [
    ([0b11001011#8, 0b00100000#8], .sla_B),
    ([0b11001011#8, 0b00100001#8], .sla_C),
    ([0b11001011#8, 0b00100010#8], .sla_D),
    ([0b11001011#8, 0b00100011#8], .sla_E),
    ([0b11001011#8, 0b00100100#8], .sla_H),
    ([0b11001011#8, 0b00100101#8], .sla_L),
    ([0b11001011#8, 0b00100110#8], .sla_mHL),
    ([0b11001011#8, 0b00100111#8], .sla_A),
    ([0b11001011#8, 0b00101000#8], .sra_B),
    ([0b11001011#8, 0b00101001#8], .sra_C),
    ([0b11001011#8, 0b00101010#8], .sra_D),
    ([0b11001011#8, 0b00101011#8], .sra_E),
    ([0b11001011#8, 0b00101100#8], .sra_H),
    ([0b11001011#8, 0b00101101#8], .sra_L),
    ([0b11001011#8, 0b00101110#8], .sra_mHL),
    ([0b11001011#8, 0b00101111#8], .sra_A)] = true := by decide
theorem test_decode_CB_3x : allDecode [
    ([0b11001011#8, 0b00110000#8], .swap_B),
    ([0b11001011#8, 0b00110001#8], .swap_C),
    ([0b11001011#8, 0b00110010#8], .swap_D),
    ([0b11001011#8, 0b00110011#8], .swap_E),
    ([0b11001011#8, 0b00110100#8], .swap_H),
    ([0b11001011#8, 0b00110101#8], .swap_L),
    ([0b11001011#8, 0b00110110#8], .swap_mHL),
    ([0b11001011#8, 0b00110111#8], .swap_A),
    ([0b11001011#8, 0b00111000#8], .srl_B),
    ([0b11001011#8, 0b00111001#8], .srl_C),
    ([0b11001011#8, 0b00111010#8], .srl_D),
    ([0b11001011#8, 0b00111011#8], .srl_E),
    ([0b11001011#8, 0b00111100#8], .srl_H),
    ([0b11001011#8, 0b00111101#8], .srl_L),
    ([0b11001011#8, 0b00111110#8], .srl_mHL),
    ([0b11001011#8, 0b00111111#8], .srl_A)] = true := by decide
theorem test_decode_CB_4x : allDecode [
    ([0b11001011#8, 0b01000000#8], .bit_0_B),
    ([0b11001011#8, 0b01000001#8], .bit_0_C),
    ([0b11001011#8, 0b01000010#8], .bit_0_D),
    ([0b11001011#8, 0b01000011#8], .bit_0_E),
    ([0b11001011#8, 0b01000100#8], .bit_0_H),
    ([0b11001011#8, 0b01000101#8], .bit_0_L),
    ([0b11001011#8, 0b01000110#8], .bit_0_mHL),
    ([0b11001011#8, 0b01000111#8], .bit_0_A),
    ([0b11001011#8, 0b01001000#8], .bit_1_B),
    ([0b11001011#8, 0b01001001#8], .bit_1_C),
    ([0b11001011#8, 0b01001010#8], .bit_1_D),
    ([0b11001011#8, 0b01001011#8], .bit_1_E),
    ([0b11001011#8, 0b01001100#8], .bit_1_H),
    ([0b11001011#8, 0b01001101#8], .bit_1_L),
    ([0b11001011#8, 0b01001110#8], .bit_1_mHL),
    ([0b11001011#8, 0b01001111#8], .bit_1_A)] = true := by decide
theorem test_decode_CB_5x : allDecode [
    ([0b11001011#8, 0b01010000#8], .bit_2_B),
    ([0b11001011#8, 0b01010001#8], .bit_2_C),
    ([0b11001011#8, 0b01010010#8], .bit_2_D),
    ([0b11001011#8, 0b01010011#8], .bit_2_E),
    ([0b11001011#8, 0b01010100#8], .bit_2_H),
    ([0b11001011#8, 0b01010101#8], .bit_2_L),
    ([0b11001011#8, 0b01010110#8], .bit_2_mHL),
    ([0b11001011#8, 0b01010111#8], .bit_2_A),
    ([0b11001011#8, 0b01011000#8], .bit_3_B),
    ([0b11001011#8, 0b01011001#8], .bit_3_C),
    ([0b11001011#8, 0b01011010#8], .bit_3_D),
    ([0b11001011#8, 0b01011011#8], .bit_3_E),
    ([0b11001011#8, 0b01011100#8], .bit_3_H),
    ([0b11001011#8, 0b01011101#8], .bit_3_L),
    ([0b11001011#8, 0b01011110#8], .bit_3_mHL),
    ([0b11001011#8, 0b01011111#8], .bit_3_A)] = true := by decide
theorem test_decode_CB_6x : allDecode [
    ([0b11001011#8, 0b01100000#8], .bit_4_B),
    ([0b11001011#8, 0b01100001#8], .bit_4_C),
    ([0b11001011#8, 0b01100010#8], .bit_4_D),
    ([0b11001011#8, 0b01100011#8], .bit_4_E),
    ([0b11001011#8, 0b01100100#8], .bit_4_H),
    ([0b11001011#8, 0b01100101#8], .bit_4_L),
    ([0b11001011#8, 0b01100110#8], .bit_4_mHL),
    ([0b11001011#8, 0b01100111#8], .bit_4_A),
    ([0b11001011#8, 0b01101000#8], .bit_5_B),
    ([0b11001011#8, 0b01101001#8], .bit_5_C),
    ([0b11001011#8, 0b01101010#8], .bit_5_D),
    ([0b11001011#8, 0b01101011#8], .bit_5_E),
    ([0b11001011#8, 0b01101100#8], .bit_5_H),
    ([0b11001011#8, 0b01101101#8], .bit_5_L),
    ([0b11001011#8, 0b01101110#8], .bit_5_mHL),
    ([0b11001011#8, 0b01101111#8], .bit_5_A)] = true := by decide
theorem test_decode_CB_7x : allDecode [
    ([0b11001011#8, 0b01110000#8], .bit_6_B),
    ([0b11001011#8, 0b01110001#8], .bit_6_C),
    ([0b11001011#8, 0b01110010#8], .bit_6_D),
    ([0b11001011#8, 0b01110011#8], .bit_6_E),
    ([0b11001011#8, 0b01110100#8], .bit_6_H),
    ([0b11001011#8, 0b01110101#8], .bit_6_L),
    ([0b11001011#8, 0b01110110#8], .bit_6_mHL),
    ([0b11001011#8, 0b01110111#8], .bit_6_A),
    ([0b11001011#8, 0b01111000#8], .bit_7_B),
    ([0b11001011#8, 0b01111001#8], .bit_7_C),
    ([0b11001011#8, 0b01111010#8], .bit_7_D),
    ([0b11001011#8, 0b01111011#8], .bit_7_E),
    ([0b11001011#8, 0b01111100#8], .bit_7_H),
    ([0b11001011#8, 0b01111101#8], .bit_7_L),
    ([0b11001011#8, 0b01111110#8], .bit_7_mHL),
    ([0b11001011#8, 0b01111111#8], .bit_7_A)] = true := by decide
theorem test_decode_CB_8x : allDecode [
    ([0b11001011#8, 0b10000000#8], .res_0_B),
    ([0b11001011#8, 0b10000001#8], .res_0_C),
    ([0b11001011#8, 0b10000010#8], .res_0_D),
    ([0b11001011#8, 0b10000011#8], .res_0_E),
    ([0b11001011#8, 0b10000100#8], .res_0_H),
    ([0b11001011#8, 0b10000101#8], .res_0_L),
    ([0b11001011#8, 0b10000110#8], .res_0_mHL),
    ([0b11001011#8, 0b10000111#8], .res_0_A),
    ([0b11001011#8, 0b10001000#8], .res_1_B),
    ([0b11001011#8, 0b10001001#8], .res_1_C),
    ([0b11001011#8, 0b10001010#8], .res_1_D),
    ([0b11001011#8, 0b10001011#8], .res_1_E),
    ([0b11001011#8, 0b10001100#8], .res_1_H),
    ([0b11001011#8, 0b10001101#8], .res_1_L),
    ([0b11001011#8, 0b10001110#8], .res_1_mHL),
    ([0b11001011#8, 0b10001111#8], .res_1_A)] = true := by decide
theorem test_decode_CB_9x : allDecode [
    ([0b11001011#8, 0b10010000#8], .res_2_B),
    ([0b11001011#8, 0b10010001#8], .res_2_C),
    ([0b11001011#8, 0b10010010#8], .res_2_D),
    ([0b11001011#8, 0b10010011#8], .res_2_E),
    ([0b11001011#8, 0b10010100#8], .res_2_H),
    ([0b11001011#8, 0b10010101#8], .res_2_L),
    ([0b11001011#8, 0b10010110#8], .res_2_mHL),
    ([0b11001011#8, 0b10010111#8], .res_2_A),
    ([0b11001011#8, 0b10011000#8], .res_3_B),
    ([0b11001011#8, 0b10011001#8], .res_3_C),
    ([0b11001011#8, 0b10011010#8], .res_3_D),
    ([0b11001011#8, 0b10011011#8], .res_3_E),
    ([0b11001011#8, 0b10011100#8], .res_3_H),
    ([0b11001011#8, 0b10011101#8], .res_3_L),
    ([0b11001011#8, 0b10011110#8], .res_3_mHL),
    ([0b11001011#8, 0b10011111#8], .res_3_A)] = true := by decide
theorem test_decode_CB_Ax : allDecode [
    ([0b11001011#8, 0b10100000#8], .res_4_B),
    ([0b11001011#8, 0b10100001#8], .res_4_C),
    ([0b11001011#8, 0b10100010#8], .res_4_D),
    ([0b11001011#8, 0b10100011#8], .res_4_E),
    ([0b11001011#8, 0b10100100#8], .res_4_H),
    ([0b11001011#8, 0b10100101#8], .res_4_L),
    ([0b11001011#8, 0b10100110#8], .res_4_mHL),
    ([0b11001011#8, 0b10100111#8], .res_4_A),
    ([0b11001011#8, 0b10101000#8], .res_5_B),
    ([0b11001011#8, 0b10101001#8], .res_5_C),
    ([0b11001011#8, 0b10101010#8], .res_5_D),
    ([0b11001011#8, 0b10101011#8], .res_5_E),
    ([0b11001011#8, 0b10101100#8], .res_5_H),
    ([0b11001011#8, 0b10101101#8], .res_5_L),
    ([0b11001011#8, 0b10101110#8], .res_5_mHL),
    ([0b11001011#8, 0b10101111#8], .res_5_A)] = true := by decide
theorem test_decode_CB_Bx : allDecode [
    ([0b11001011#8, 0b10110000#8], .res_6_B),
    ([0b11001011#8, 0b10110001#8], .res_6_C),
    ([0b11001011#8, 0b10110010#8], .res_6_D),
    ([0b11001011#8, 0b10110011#8], .res_6_E),
    ([0b11001011#8, 0b10110100#8], .res_6_H),
    ([0b11001011#8, 0b10110101#8], .res_6_L),
    ([0b11001011#8, 0b10110110#8], .res_6_mHL),
    ([0b11001011#8, 0b10110111#8], .res_6_A),
    ([0b11001011#8, 0b10111000#8], .res_7_B),
    ([0b11001011#8, 0b10111001#8], .res_7_C),
    ([0b11001011#8, 0b10111010#8], .res_7_D),
    ([0b11001011#8, 0b10111011#8], .res_7_E),
    ([0b11001011#8, 0b10111100#8], .res_7_H),
    ([0b11001011#8, 0b10111101#8], .res_7_L),
    ([0b11001011#8, 0b10111110#8], .res_7_mHL),
    ([0b11001011#8, 0b10111111#8], .res_7_A)] = true := by decide
theorem test_decode_CB_Cx : allDecode [
    ([0b11001011#8, 0b11000000#8], .set_0_B),
    ([0b11001011#8, 0b11000001#8], .set_0_C),
    ([0b11001011#8, 0b11000010#8], .set_0_D),
    ([0b11001011#8, 0b11000011#8], .set_0_E),
    ([0b11001011#8, 0b11000100#8], .set_0_H),
    ([0b11001011#8, 0b11000101#8], .set_0_L),
    ([0b11001011#8, 0b11000110#8], .set_0_mHL),
    ([0b11001011#8, 0b11000111#8], .set_0_A),
    ([0b11001011#8, 0b11001000#8], .set_1_B),
    ([0b11001011#8, 0b11001001#8], .set_1_C),
    ([0b11001011#8, 0b11001010#8], .set_1_D),
    ([0b11001011#8, 0b11001011#8], .set_1_E),
    ([0b11001011#8, 0b11001100#8], .set_1_H),
    ([0b11001011#8, 0b11001101#8], .set_1_L),
    ([0b11001011#8, 0b11001110#8], .set_1_mHL),
    ([0b11001011#8, 0b11001111#8], .set_1_A)] = true := by decide
theorem test_decode_CB_Dx : allDecode [
    ([0b11001011#8, 0b11010000#8], .set_2_B),
    ([0b11001011#8, 0b11010001#8], .set_2_C),
    ([0b11001011#8, 0b11010010#8], .set_2_D),
    ([0b11001011#8, 0b11010011#8], .set_2_E),
    ([0b11001011#8, 0b11010100#8], .set_2_H),
    ([0b11001011#8, 0b11010101#8], .set_2_L),
    ([0b11001011#8, 0b11010110#8], .set_2_mHL),
    ([0b11001011#8, 0b11010111#8], .set_2_A),
    ([0b11001011#8, 0b11011000#8], .set_3_B),
    ([0b11001011#8, 0b11011001#8], .set_3_C),
    ([0b11001011#8, 0b11011010#8], .set_3_D),
    ([0b11001011#8, 0b11011011#8], .set_3_E),
    ([0b11001011#8, 0b11011100#8], .set_3_H),
    ([0b11001011#8, 0b11011101#8], .set_3_L),
    ([0b11001011#8, 0b11011110#8], .set_3_mHL),
    ([0b11001011#8, 0b11011111#8], .set_3_A)] = true := by decide
theorem test_decode_CB_Ex : allDecode [
    ([0b11001011#8, 0b11100000#8], .set_4_B),
    ([0b11001011#8, 0b11100001#8], .set_4_C),
    ([0b11001011#8, 0b11100010#8], .set_4_D),
    ([0b11001011#8, 0b11100011#8], .set_4_E),
    ([0b11001011#8, 0b11100100#8], .set_4_H),
    ([0b11001011#8, 0b11100101#8], .set_4_L),
    ([0b11001011#8, 0b11100110#8], .set_4_mHL),
    ([0b11001011#8, 0b11100111#8], .set_4_A),
    ([0b11001011#8, 0b11101000#8], .set_5_B),
    ([0b11001011#8, 0b11101001#8], .set_5_C),
    ([0b11001011#8, 0b11101010#8], .set_5_D),
    ([0b11001011#8, 0b11101011#8], .set_5_E),
    ([0b11001011#8, 0b11101100#8], .set_5_H),
    ([0b11001011#8, 0b11101101#8], .set_5_L),
    ([0b11001011#8, 0b11101110#8], .set_5_mHL),
    ([0b11001011#8, 0b11101111#8], .set_5_A)] = true := by decide
theorem test_decode_CB_Fx : allDecode [
    ([0b11001011#8, 0b11110000#8], .set_6_B),
    ([0b11001011#8, 0b11110001#8], .set_6_C),
    ([0b11001011#8, 0b11110010#8], .set_6_D),
    ([0b11001011#8, 0b11110011#8], .set_6_E),
    ([0b11001011#8, 0b11110100#8], .set_6_H),
    ([0b11001011#8, 0b11110101#8], .set_6_L),
    ([0b11001011#8, 0b11110110#8], .set_6_mHL),
    ([0b11001011#8, 0b11110111#8], .set_6_A),
    ([0b11001011#8, 0b11111000#8], .set_7_B),
    ([0b11001011#8, 0b11111001#8], .set_7_C),
    ([0b11001011#8, 0b11111010#8], .set_7_D),
    ([0b11001011#8, 0b11111011#8], .set_7_E),
    ([0b11001011#8, 0b11111100#8], .set_7_H),
    ([0b11001011#8, 0b11111101#8], .set_7_L),
    ([0b11001011#8, 0b11111110#8], .set_7_mHL),
    ([0b11001011#8, 0b11111111#8], .set_7_A)] = true := by decide

/-- Too few bytes are refused (R91, R94). -/
theorem test_decode_truncated : decode [] = .error .truncated ∧ decode [0b11001011#8] = .error .truncated ∧
    decode [0b00000110#8] = .error .truncated ∧ decode [0b11000011#8, 0x34#8] = .error .truncated := ⟨rfl, rfl, rfl, rfl⟩

/-! ## Single steps: rows of spec/95_test_vectors.md sections 2.1 to 2.6 -/

/-- The default state of spec/95_test_vectors.md section 0, with no frame buffer. -/
def start (g : RegFile) (mem : List Host.Cell) : State where
  regs := g
  ime := false
  imePend := none
  cyclesTotal := 0
  bootLatch := false
  mem := Memory.ofCells mem
  ppu := ⟨0x00#8, 0x00#8, 0x00#8, .oam, 83, 0#8, [], []⟩
  status := .running
  cfg := Config.standard

/-- Its registers: SP = 0xDFF0, PC = 0xC000, the others 0. -/
def regs0 : RegFile := ⟨0#8, 0#8, 0#8, 0#8, 0#8, 0#8, 0#8, false, false, false, false, 0xDFF0#16, 0xC000#16⟩

/-- One step answers a next state, and it is as `ok` says. -/
def ran (s : State) (ok : State → Bool) : Bool :=
  match step s with
  | .next t => ok t
  | .fault _ => false
  | .refused _ => false

/-- The flags Z, N, Hf, Cf. -/
def flags (g : RegFile) : Bool × Bool × Bool × Bool := (g.zf, g.nf, g.hf, g.cf)

/-- The fault a state holds, if any. -/
def faultOf (s : State) : Option Fault := (faultReport s).map (·.fault)

/-- R121. -/
theorem test_step_LD_B_C : ran (start { regs0 with c := 0x5A#8 } [(0xC000, 0x41#8)]) (fun t =>
    t.regs.b == 0x5A#8 && t.regs.pc == 0xC001#16 && flags t.regs == (false, false, false, false) && t.cyclesTotal == 4) = true := by decide
/-- R122. -/
theorem test_step_LD_A_HL_from_WRAM : ran (start { regs0 with h := 0xC1#8, l := 0x00#8 } [(0xC100, 0x99#8), (0xC000, 0x7E#8)]) (fun t =>
    t.regs.a == 0x99#8 && t.regs.pc == 0xC001#16 && flags t.regs == (false, false, false, false) && t.cyclesTotal == 8) = true := by decide
/-- R123. -/
theorem test_step_LD_HL_A_into_the_cartridge_range : ran (start { regs0 with a := 0x01#8, h := 0x3F#8, l := 0xFF#8 } [(0xC000, 0x77#8)]) (fun t =>
    faultOf t == some (Fault.readOnlyViolation 0x3FFF#16) && t.regs.sp == 0xDFF0#16 && t.regs.pc == 0xC000#16) = true := by decide
/-- R124. -/
theorem test_step_LD_E_n : ran (start regs0 [(0xC000, 0x1E#8), (0xC001, 0xF0#8)]) (fun t =>
    t.regs.e == 0xF0#8 && t.regs.pc == 0xC002#16 && flags t.regs == (false, false, false, false) && t.cyclesTotal == 8) = true := by decide
/-- R125. -/
theorem test_step_LD_HL_n_into_HRAM : ran (start { regs0 with h := 0xFF#8, l := 0x80#8 } [(0xC000, 0x36#8), (0xC001, 0xAB#8)]) (fun t =>
    t.regs.pc == 0xC002#16 && t.memByte 0xFF80#16 == 0xAB#8 && flags t.regs == (false, false, false, false) && t.cyclesTotal == 12) = true := by decide
/-- R127. -/
theorem test_step_LD_A_DE : ran (start { regs0 with d := 0xC2#8, e := 0x10#8 } [(0xC210, 0x5E#8), (0xC000, 0x1A#8)]) (fun t =>
    t.regs.a == 0x5E#8 && t.regs.pc == 0xC001#16 && flags t.regs == (false, false, false, false) && t.cyclesTotal == 8) = true := by decide
/-- R129. -/
theorem test_step_LD_DE_A : ran (start { regs0 with a := 0x33#8, d := 0xC2#8, e := 0x01#8 } [(0xC000, 0x12#8)]) (fun t =>
    t.regs.pc == 0xC001#16 && t.memByte 0xC201#16 == 0x33#8 && flags t.regs == (false, false, false, false) && t.cyclesTotal == 8) = true := by decide
/-- R130. -/
theorem test_step_LD_A_nn_from_VRAM_LCD_off_open : ran (start regs0 [(0x8000, 0x5C#8), (0xC000, 0xFA#8), (0xC001, 0x00#8), (0xC002, 0x80#8)]) (fun t =>
    t.regs.a == 0x5C#8 && t.regs.pc == 0xC003#16 && flags t.regs == (false, false, false, false) && t.cyclesTotal == 16) = true := by decide
/-- R130. -/
theorem test_step_LD_A_nn_from_VRAM_LCD_on_mode_OAM_blocke : ran { start regs0 [(0x8000, 0x5C#8), (0xC000, 0xFA#8), (0xC001, 0x00#8), (0xC002, 0x80#8)] with ppu := { (start regs0 []).ppu with lcdc := 0x80#8, mode := .oam, countdown := 83 } } (fun t =>
    t.regs.a == 0xFF#8 && t.regs.pc == 0xC003#16 && flags t.regs == (false, false, false, false) && t.cyclesTotal == 16) = true := by decide
/-- R131. -/
theorem test_step_LD_nn_A_to_VRAM_LCD_on_mode_Transfer_dro : ran { start { regs0 with a := 0x11#8 } [(0xC000, 0xEA#8), (0xC001, 0x00#8), (0xC002, 0x80#8)] with ppu := { (start regs0 []).ppu with lcdc := 0x80#8, mode := .transfer, countdown := 175 } } (fun t =>
    t.regs.pc == 0xC003#16 && flags t.regs == (false, false, false, false) && t.cyclesTotal == 16) = true := by decide
/-- R131. -/
theorem test_step_LD_nn_A_to_VRAM_LCD_on_mode_HBlank_store : ran { start { regs0 with a := 0x11#8 } [(0xC000, 0xEA#8), (0xC001, 0x00#8), (0xC002, 0x80#8)] with ppu := { (start regs0 []).ppu with lcdc := 0x80#8, mode := .hblank, countdown := 207 } } (fun t =>
    t.regs.pc == 0xC003#16 && t.memByte 0x8000#16 == 0x11#8 && flags t.regs == (false, false, false, false) && t.cyclesTotal == 16) = true := by decide
/-- R133. -/
theorem test_step_LDH_A_0x44_reads_LY : ran { start regs0 [(0xC000, 0xF0#8), (0xC001, 0x44#8)] with ppu := { (start regs0 []).ppu with ly := 0x12#8 } } (fun t =>
    t.regs.a == 0x12#8 && t.regs.pc == 0xC002#16 && flags t.regs == (false, false, false, false) && t.cyclesTotal == 12) = true := by decide
/-- R134. -/
theorem test_step_LDH_0x44_A_is_ignored : ran { start { regs0 with a := 0x99#8 } [(0xC000, 0xE0#8), (0xC001, 0x44#8)] with ppu := { (start regs0 []).ppu with ly := 0x12#8 } } (fun t =>
    t.regs.pc == 0xC002#16 && flags t.regs == (false, false, false, false) && t.cyclesTotal == 12) = true := by decide
/-- R134. -/
theorem test_step_LDH_0x41_A_STAT_is_a_plain_byte : ran (start { regs0 with a := 0x85#8 } [(0xC000, 0xE0#8), (0xC001, 0x41#8)]) (fun t =>
    t.regs.pc == 0xC002#16 && t.memByte 0xFF41#16 == 0x85#8 && flags t.regs == (false, false, false, false) && t.cyclesTotal == 12) = true := by decide
/-- R135. -/
theorem test_step_LD_A_C_with_C_0xFF_reads_0xFFFF_unmapped : ran (start { regs0 with c := 0xFF#8 } [(0xC000, 0xF2#8)]) (fun t =>
    faultOf t == some (Fault.busError 0xFFFF#16 .read) && t.regs.sp == 0xDFF0#16 && t.regs.pc == 0xC000#16) = true := by decide
/-- R136. -/
theorem test_step_LD_C_A_with_C_0x80_reaches_HRAM : ran (start { regs0 with a := 0x66#8, c := 0x80#8 } [(0xC000, 0xE2#8)]) (fun t =>
    t.regs.pc == 0xC001#16 && t.memByte 0xFF80#16 == 0x66#8 && flags t.regs == (false, false, false, false) && t.cyclesTotal == 8) = true := by decide
/-- R137. -/
theorem test_step_LD_A_HL : ran (start { regs0 with h := 0xC0#8, l := 0xFF#8 } [(0xC0FF, 0x07#8), (0xC000, 0x2A#8)]) (fun t =>
    t.regs.a == 0x07#8 && t.regs.h == 0xC1#8 && t.regs.l == 0x00#8 && t.regs.pc == 0xC001#16 && flags t.regs == (false, false, false, false) && t.cyclesTotal == 8) = true := by decide
/-- R138. -/
theorem test_step_LD_A_HL_at_0xC100 : ran (start { regs0 with h := 0xC1#8, l := 0x00#8 } [(0xC100, 0x3D#8), (0xC000, 0x3A#8)]) (fun t =>
    t.regs.a == 0x3D#8 && t.regs.h == 0xC0#8 && t.regs.l == 0xFF#8 && t.regs.pc == 0xC001#16 && flags t.regs == (false, false, false, false) && t.cyclesTotal == 8) = true := by decide
/-- R139. -/
theorem test_step_LD_HL_A_at_0xDFFF_leaves_HL_0xE000 : ran (start { regs0 with a := 0x9C#8, h := 0xDF#8, l := 0xFF#8 } [(0xC000, 0x22#8)]) (fun t =>
    t.regs.h == 0xE0#8 && t.regs.l == 0x00#8 && t.regs.pc == 0xC001#16 && t.memByte 0xDFFF#16 == 0x9C#8 && flags t.regs == (false, false, false, false) && t.cyclesTotal == 8) = true := by decide
/-- R140. -/
theorem test_step_LD_HL_A_at_0xC000_leaves_HL_0xBFFF : ran (start { regs0 with a := 0x21#8, h := 0xC0#8, l := 0x00#8 } [(0xC000, 0x32#8)]) (fun t =>
    t.regs.h == 0xBF#8 && t.regs.l == 0xFF#8 && t.regs.pc == 0xC001#16 && t.memByte 0xC000#16 == 0x21#8 && flags t.regs == (false, false, false, false) && t.cyclesTotal == 8) = true := by decide
/-- R141. -/
theorem test_step_LD_SP_nn : ran (start regs0 [(0xC000, 0x31#8), (0xC001, 0xFE#8), (0xC002, 0xFF#8)]) (fun t =>
    t.regs.sp == 0xFFFE#16 && t.regs.pc == 0xC003#16 && flags t.regs == (false, false, false, false) && t.cyclesTotal == 12) = true := by decide
/-- R142. -/
theorem test_step_LD_nn_SP : ran (start { regs0 with sp := 0xBEEF#16 } [(0xC000, 0x08#8), (0xC001, 0x00#8), (0xC002, 0xD0#8)]) (fun t =>
    t.regs.pc == 0xC003#16 && t.memByte 0xD000#16 == 0xEF#8 && t.memByte 0xD001#16 == 0xBE#8 && flags t.regs == (false, false, false, false) && t.cyclesTotal == 20) = true := by decide
/-- R142. -/
theorem test_step_LD_nn_SP_at_0xDFFF_second_byte_unmapped : ran (start { regs0 with sp := 0xBEEF#16 } [(0xC000, 0x08#8), (0xC001, 0xFF#8), (0xC002, 0xDF#8)]) (fun t =>
    faultOf t == some (Fault.busError 0xE000#16 .write) && t.regs.sp == 0xBEEF#16 && t.regs.pc == 0xC000#16 && t.memByte 0xDFFF#16 == 0xEF#8) = true := by decide
/-- R143. -/
theorem test_step_LD_SP_HL : ran (start { regs0 with h := 0xD0#8, l := 0x00#8 } [(0xC000, 0xF9#8)]) (fun t =>
    t.regs.sp == 0xD000#16 && t.regs.pc == 0xC001#16 && flags t.regs == (false, false, false, false) && t.cyclesTotal == 8) = true := by decide
/-- R152. -/
theorem test_step_PUSH_BC : ran (start { regs0 with b := 0x12#8, c := 0x34#8, sp := 0xFFFE#16 } [(0xC000, 0xC5#8)]) (fun t =>
    t.regs.sp == 0xFFFC#16 && t.regs.pc == 0xC001#16 && t.memByte 0xFFFC#16 == 0x34#8 && t.memByte 0xFFFD#16 == 0x12#8 && flags t.regs == (false, false, false, false) && t.cyclesTotal == 16) = true := by decide
/-- R152. -/
theorem test_step_PUSH_BC_with_SP_0xC001_high_byte_stored : ran (start { regs0 with b := 0x12#8, c := 0x34#8, sp := 0xC001#16 } [(0xC000, 0xC5#8)]) (fun t =>
    faultOf t == some (Fault.busError 0xBFFF#16 .write) && t.regs.sp == 0xC001#16 && t.regs.pc == 0xC000#16 && t.memByte 0xC000#16 == 0x12#8) = true := by decide
/-- R153. -/
theorem test_step_POP_AF_drops_the_low_nibble : ran (start { regs0 with sp := 0xFFFC#16 } [(0xFFFC, 0xFF#8), (0xFFFD, 0x12#8), (0xC000, 0xF1#8)]) (fun t =>
    t.regs.a == 0x12#8 && t.regs.sp == 0xFFFE#16 && t.regs.pc == 0xC001#16 && flags t.regs == (true, true, true, true) && t.cyclesTotal == 12) = true := by decide
/-- R154. -/
theorem test_step_POP_DE : ran (start { regs0 with sp := 0xFFFC#16 } [(0xFFFC, 0x34#8), (0xFFFD, 0x12#8), (0xC000, 0xD1#8)]) (fun t =>
    t.regs.d == 0x12#8 && t.regs.e == 0x34#8 && t.regs.sp == 0xFFFE#16 && t.regs.pc == 0xC001#16 && flags t.regs == (false, false, false, false) && t.cyclesTotal == 12) = true := by decide
/-- R154. -/
theorem test_step_POP_HL_with_SP_0xFFFE_second_read_unmapp : ran (start { regs0 with sp := 0xFFFE#16 } [(0xFFFE, 0x01#8), (0xC000, 0xE1#8)]) (fun t =>
    faultOf t == some (Fault.busError 0xFFFF#16 .read) && t.regs.sp == 0xFFFE#16 && t.regs.pc == 0xC000#16) = true := by decide
/-- R166. -/
theorem test_step_ADD_A_B_0x3A_0xC6 : ran (start { regs0 with a := 0x3A#8, b := 0xC6#8 } [(0xC000, 0x80#8)]) (fun t =>
    t.regs.a == 0x00#8 && t.regs.pc == 0xC001#16 && flags t.regs == (true, false, true, true) && t.cyclesTotal == 4) = true := by decide
/-- R168. -/
theorem test_step_ADD_A_n_0x08_0x08 : ran (start { regs0 with a := 0x08#8 } [(0xC000, 0xC6#8), (0xC001, 0x08#8)]) (fun t =>
    t.regs.a == 0x10#8 && t.regs.pc == 0xC002#16 && flags t.regs == (false, false, true, false) && t.cyclesTotal == 8) = true := by decide
/-- R169. -/
theorem test_step_ADC_A_B_0x0E_0x01_carry : ran (start { regs0 with a := 0x0E#8, b := 0x01#8, cf := true } [(0xC000, 0x88#8)]) (fun t =>
    t.regs.a == 0x10#8 && t.regs.pc == 0xC001#16 && flags t.regs == (false, false, true, false) && t.cyclesTotal == 4) = true := by decide
/-- R170. -/
theorem test_step_ADC_A_HL_0x7F_0x00_carry : ran (start { regs0 with a := 0x7F#8, h := 0xC5#8, l := 0x01#8, cf := true } [(0xC501, 0x00#8), (0xC000, 0x8E#8)]) (fun t =>
    t.regs.a == 0x80#8 && t.regs.pc == 0xC001#16 && flags t.regs == (false, false, true, false) && t.cyclesTotal == 8) = true := by decide
/-- R171. -/
theorem test_step_ADC_A_n_0xFF_0x00_carry : ran (start { regs0 with a := 0xFF#8, cf := true } [(0xC000, 0xCE#8), (0xC001, 0x00#8)]) (fun t =>
    t.regs.a == 0x00#8 && t.regs.pc == 0xC002#16 && flags t.regs == (true, false, true, true) && t.cyclesTotal == 8) = true := by decide
/-- R172. -/
theorem test_step_SUB_B_equal : ran (start { regs0 with a := 0x3E#8, b := 0x3E#8 } [(0xC000, 0x90#8)]) (fun t =>
    t.regs.a == 0x00#8 && t.regs.pc == 0xC001#16 && flags t.regs == (true, true, false, false) && t.cyclesTotal == 4) = true := by decide
/-- R173. -/
theorem test_step_SUB_HL_0x10_0x01 : ran (start { regs0 with a := 0x10#8, h := 0xC5#8, l := 0x02#8 } [(0xC502, 0x01#8), (0xC000, 0x96#8)]) (fun t =>
    t.regs.a == 0x0F#8 && t.regs.pc == 0xC001#16 && flags t.regs == (false, true, true, false) && t.cyclesTotal == 8) = true := by decide
/-- R174. -/
theorem test_step_SUB_n_0x3E_0x0F : ran (start { regs0 with a := 0x3E#8 } [(0xC000, 0xD6#8), (0xC001, 0x0F#8)]) (fun t =>
    t.regs.a == 0x2F#8 && t.regs.pc == 0xC002#16 && flags t.regs == (false, true, true, false) && t.cyclesTotal == 8) = true := by decide
/-- R175. -/
theorem test_step_SBC_A_B_0x10_0x0F_1 : ran (start { regs0 with a := 0x10#8, b := 0x0F#8, cf := true } [(0xC000, 0x98#8)]) (fun t =>
    t.regs.a == 0x00#8 && t.regs.pc == 0xC001#16 && flags t.regs == (true, true, true, false) && t.cyclesTotal == 4) = true := by decide
/-- R175. -/
theorem test_step_SBC_A_A_with_carry : ran (start { regs0 with a := 0x42#8, cf := true } [(0xC000, 0x9F#8)]) (fun t =>
    t.regs.a == 0xFF#8 && t.regs.pc == 0xC001#16 && flags t.regs == (false, true, true, true) && t.cyclesTotal == 4) = true := by decide
/-- R176. -/
theorem test_step_SBC_A_HL_0x00_0xFF_0 : ran (start { regs0 with a := 0x00#8, h := 0xC5#8, l := 0x03#8 } [(0xC503, 0xFF#8), (0xC000, 0x9E#8)]) (fun t =>
    t.regs.a == 0x01#8 && t.regs.pc == 0xC001#16 && flags t.regs == (false, true, true, true) && t.cyclesTotal == 8) = true := by decide
/-- R177. -/
theorem test_step_SBC_A_n_0x3B_0x2A_1 : ran (start { regs0 with a := 0x3B#8, cf := true } [(0xC000, 0xDE#8), (0xC001, 0x2A#8)]) (fun t =>
    t.regs.a == 0x10#8 && t.regs.pc == 0xC002#16 && flags t.regs == (false, true, false, false) && t.cyclesTotal == 8) = true := by decide
/-- R178. -/
theorem test_step_AND_C : ran (start { regs0 with a := 0xF0#8, c := 0x0F#8 } [(0xC000, 0xA1#8)]) (fun t =>
    t.regs.a == 0x00#8 && t.regs.pc == 0xC001#16 && flags t.regs == (true, false, true, false) && t.cyclesTotal == 4) = true := by decide
/-- R180. -/
theorem test_step_AND_n_0x5A_0x3F : ran (start { regs0 with a := 0x5A#8 } [(0xC000, 0xE6#8), (0xC001, 0x3F#8)]) (fun t =>
    t.regs.a == 0x1A#8 && t.regs.pc == 0xC002#16 && flags t.regs == (false, false, true, false) && t.cyclesTotal == 8) = true := by decide
/-- R181. -/
theorem test_step_XOR_A_xor_A_A : ran (start { regs0 with a := 0x5C#8, nf := true, hf := true, cf := true } [(0xC000, 0xAF#8)]) (fun t =>
    t.regs.a == 0x00#8 && t.regs.pc == 0xC001#16 && flags t.regs == (true, false, false, false) && t.cyclesTotal == 4) = true := by decide
/-- R183. -/
theorem test_step_XOR_n : ran (start { regs0 with a := 0x0F#8, cf := true } [(0xC000, 0xEE#8), (0xC001, 0xF0#8)]) (fun t =>
    t.regs.a == 0xFF#8 && t.regs.pc == 0xC002#16 && flags t.regs == (false, false, false, false) && t.cyclesTotal == 8) = true := by decide
/-- R184. -/
theorem test_step_OR_D : ran (start { regs0 with a := 0x00#8, d := 0x80#8 } [(0xC000, 0xB2#8)]) (fun t =>
    t.regs.a == 0x80#8 && t.regs.pc == 0xC001#16 && flags t.regs == (false, false, false, false) && t.cyclesTotal == 4) = true := by decide
/-- R186. -/
theorem test_step_OR_n_zero : ran (start { regs0 with a := 0x00#8 } [(0xC000, 0xF6#8), (0xC001, 0x00#8)]) (fun t =>
    t.regs.pc == 0xC002#16 && flags t.regs == (true, false, false, false) && t.cyclesTotal == 8) = true := by decide
/-- R187. -/
theorem test_step_CP_B_A_0x00_B_0x01 : ran (start { regs0 with a := 0x00#8, b := 0x01#8 } [(0xC000, 0xB8#8)]) (fun t =>
    t.regs.pc == 0xC001#16 && flags t.regs == (false, true, true, true) && t.cyclesTotal == 4) = true := by decide
/-- R189. -/
theorem test_step_CP_n_equal_A_unchanged : ran (start { regs0 with a := 0x3C#8 } [(0xC000, 0xFE#8), (0xC001, 0x3C#8)]) (fun t =>
    t.regs.pc == 0xC002#16 && flags t.regs == (true, true, false, false) && t.cyclesTotal == 8) = true := by decide
/-- R189. -/
theorem test_step_CP_n_A_v_nibble_borrow : ran (start { regs0 with a := 0x3C#8 } [(0xC000, 0xFE#8), (0xC001, 0x2F#8)]) (fun t =>
    t.regs.pc == 0xC002#16 && flags t.regs == (false, true, true, false) && t.cyclesTotal == 8) = true := by decide
/-- R192. -/
theorem test_step_INC_A_0xFF_Cf_kept : ran (start { regs0 with a := 0xFF#8, cf := true } [(0xC000, 0x3C#8)]) (fun t =>
    t.regs.a == 0x00#8 && t.regs.pc == 0xC001#16 && flags t.regs == (true, false, true, true) && t.cyclesTotal == 4) = true := by decide
/-- R193. -/
theorem test_step_INC_HL_in_WRAM : ran (start { regs0 with h := 0xC3#8, l := 0x01#8 } [(0xC301, 0x7F#8), (0xC000, 0x34#8)]) (fun t =>
    t.regs.pc == 0xC001#16 && t.memByte 0xC301#16 == 0x80#8 && flags t.regs == (false, false, true, false) && t.cyclesTotal == 12) = true := by decide
/-- R194. -/
theorem test_step_DEC_B_0x00_wrap_no_Zero : ran (start { regs0 with b := 0x00#8 } [(0xC000, 0x05#8)]) (fun t =>
    t.regs.b == 0xFF#8 && t.regs.pc == 0xC001#16 && flags t.regs == (false, true, true, false) && t.cyclesTotal == 4) = true := by decide
/-- R194. -/
theorem test_step_DEC_B_0x01 : ran (start { regs0 with b := 0x01#8, cf := true } [(0xC000, 0x05#8)]) (fun t =>
    t.regs.b == 0x00#8 && t.regs.pc == 0xC001#16 && flags t.regs == (true, true, false, true) && t.cyclesTotal == 4) = true := by decide
/-- R195. -/
theorem test_step_DEC_HL_in_the_cartridge_read_then_write : ran { start { regs0 with h := 0x01#8, l := 0x00#8 } [(0xC000, 0x35#8)] with cfg := { Config.standard with romPad := 0x00#8 } } (fun t =>
    faultOf t == some (Fault.readOnlyViolation 0x0100#16) && t.regs.sp == 0xDFF0#16 && t.regs.pc == 0xC000#16) = true := by decide
/-- R195. -/
theorem test_step_DEC_HL_0x00_in_WRAM : ran (start { regs0 with h := 0xC5#8, l := 0x07#8 } [(0xC507, 0x00#8), (0xC000, 0x35#8)]) (fun t =>
    t.regs.pc == 0xC001#16 && t.memByte 0xC507#16 == 0xFF#8 && flags t.regs == (false, true, true, false) && t.cyclesTotal == 12) = true := by decide
/-- R196. -/
theorem test_step_DAA_after_0x45_0x38_0x7D : ran (start { regs0 with a := 0x7D#8 } [(0xC000, 0x27#8)]) (fun t =>
    t.regs.a == 0x83#8 && t.regs.pc == 0xC001#16 && flags t.regs == (false, false, false, false) && t.cyclesTotal == 4) = true := by decide
/-- R196. -/
theorem test_step_DAA_after_0x99_0x01_0x9A : ran (start { regs0 with a := 0x9A#8 } [(0xC000, 0x27#8)]) (fun t =>
    t.regs.a == 0x00#8 && t.regs.pc == 0xC001#16 && flags t.regs == (true, false, false, true) && t.cyclesTotal == 4) = true := by decide
/-- R196. -/
theorem test_step_DAA_after_0x42_0x15_0x2D_N_H_set : ran (start { regs0 with a := 0x2D#8, nf := true, hf := true } [(0xC000, 0x27#8)]) (fun t =>
    t.regs.a == 0x27#8 && t.regs.pc == 0xC001#16 && flags t.regs == (false, true, false, false) && t.cyclesTotal == 4) = true := by decide
/-- R196. -/
theorem test_step_DAA_after_0x10_0x20_0xF0_N_C_set : ran (start { regs0 with a := 0xF0#8, nf := true, cf := true } [(0xC000, 0x27#8)]) (fun t =>
    t.regs.a == 0x90#8 && t.regs.pc == 0xC001#16 && flags t.regs == (false, true, false, true) && t.cyclesTotal == 4) = true := by decide
/-- R197. -/
theorem test_step_CPL : ran (start { regs0 with a := 0x35#8 } [(0xC000, 0x2F#8)]) (fun t =>
    t.regs.a == 0xCA#8 && t.regs.pc == 0xC001#16 && flags t.regs == (false, true, true, false) && t.cyclesTotal == 4) = true := by decide
/-- R198. -/
theorem test_step_SCF : ran (start { regs0 with hf := true, nf := true } [(0xC000, 0x37#8)]) (fun t =>
    t.regs.pc == 0xC001#16 && flags t.regs == (false, false, false, true) && t.cyclesTotal == 4) = true := by decide
/-- R199. -/
theorem test_step_CCF : ran (start { regs0 with cf := true, zf := true } [(0xC000, 0x3F#8)]) (fun t =>
    t.regs.pc == 0xC001#16 && flags t.regs == (true, false, false, false) && t.cyclesTotal == 4) = true := by decide
/-- R210. -/
theorem test_step_INC_BC_0xFFFF_no_flag : ran (start { regs0 with b := 0xFF#8, c := 0xFF#8, zf := true, cf := true } [(0xC000, 0x03#8)]) (fun t =>
    t.regs.b == 0x00#8 && t.regs.c == 0x00#8 && t.regs.pc == 0xC001#16 && flags t.regs == (true, false, false, true) && t.cyclesTotal == 8) = true := by decide
/-- R211. -/
theorem test_step_DEC_DE_0x0000 : ran (start { regs0 with d := 0x00#8, e := 0x00#8 } [(0xC000, 0x1B#8)]) (fun t =>
    t.regs.d == 0xFF#8 && t.regs.e == 0xFF#8 && t.regs.pc == 0xC001#16 && flags t.regs == (false, false, false, false) && t.cyclesTotal == 8) = true := by decide
/-- R212. -/
theorem test_step_ADD_HL_BC_0x8A23_0x0605 : ran (start { regs0 with h := 0x8A#8, l := 0x23#8, b := 0x06#8, c := 0x05#8 } [(0xC000, 0x09#8)]) (fun t =>
    t.regs.h == 0x90#8 && t.regs.l == 0x28#8 && t.regs.pc == 0xC001#16 && flags t.regs == (false, false, true, false) && t.cyclesTotal == 8) = true := by decide
/-- R212. -/
theorem test_step_ADD_HL_HL_0x8000_Z_kept : ran (start { regs0 with h := 0x80#8, l := 0x00#8, zf := true } [(0xC000, 0x29#8)]) (fun t =>
    t.regs.h == 0x00#8 && t.regs.pc == 0xC001#16 && flags t.regs == (true, false, false, true) && t.cyclesTotal == 8) = true := by decide
/-- R214. -/
theorem test_step_ADD_SP_m1_from_0x000F : ran (start { regs0 with sp := 0x000F#16 } [(0xC000, 0xE8#8), (0xC001, 0xFF#8)]) (fun t =>
    t.regs.sp == 0x000E#16 && t.regs.pc == 0xC002#16 && flags t.regs == (false, false, true, true) && t.cyclesTotal == 16) = true := by decide
/-- R214. -/
theorem test_step_ADD_SP_m128_from_0x0080 : ran (start { regs0 with sp := 0x0080#16 } [(0xC000, 0xE8#8), (0xC001, 0x80#8)]) (fun t =>
    t.regs.sp == 0x0000#16 && t.regs.pc == 0xC002#16 && flags t.regs == (false, false, false, true) && t.cyclesTotal == 16) = true := by decide
/-- R215. -/
theorem test_step_LD_HL_SP_1_from_0x00FF : ran (start { regs0 with sp := 0x00FF#16 } [(0xC000, 0xF8#8), (0xC001, 0x01#8)]) (fun t =>
    t.regs.h == 0x01#8 && t.regs.pc == 0xC002#16 && flags t.regs == (false, false, true, true) && t.cyclesTotal == 12) = true := by decide
/-- R232. -/
theorem test_step_RLCA_0x85 : ran (start { regs0 with a := 0x85#8 } [(0xC000, 0x07#8)]) (fun t =>
    t.regs.a == 0x0B#8 && t.regs.pc == 0xC001#16 && flags t.regs == (false, false, false, true) && t.cyclesTotal == 4) = true := by decide
/-- R233. -/
theorem test_step_RRCA_0x3B : ran (start { regs0 with a := 0x3B#8 } [(0xC000, 0x0F#8)]) (fun t =>
    t.regs.a == 0x9D#8 && t.regs.pc == 0xC001#16 && flags t.regs == (false, false, false, true) && t.cyclesTotal == 4) = true := by decide
/-- R234. -/
theorem test_step_RLA_0x80_Cf_0_result_zero_FromResult : ran (start { regs0 with a := 0x80#8 } [(0xC000, 0x17#8)]) (fun t =>
    t.regs.a == 0x00#8 && t.regs.pc == 0xC001#16 && flags t.regs == (true, false, false, true) && t.cyclesTotal == 4) = true := by decide
/-- R235. -/
theorem test_step_RRA_0x81_Cf_0 : ran (start { regs0 with a := 0x81#8 } [(0xC000, 0x1F#8)]) (fun t =>
    t.regs.a == 0x40#8 && t.regs.pc == 0xC001#16 && flags t.regs == (false, false, false, true) && t.cyclesTotal == 4) = true := by decide
/-- R236. -/
theorem test_step_RLC_B_0x80 : ran (start { regs0 with b := 0x80#8 } [(0xC000, 0xCB#8), (0xC001, 0x00#8)]) (fun t =>
    t.regs.b == 0x01#8 && t.regs.pc == 0xC002#16 && flags t.regs == (false, false, false, true) && t.cyclesTotal == 8) = true := by decide
/-- R237. -/
theorem test_step_RLC_HL_in_WRAM : ran (start { regs0 with h := 0xC4#8, l := 0x00#8 } [(0xC400, 0x81#8), (0xC000, 0xCB#8), (0xC001, 0x06#8)]) (fun t =>
    t.regs.pc == 0xC002#16 && t.memByte 0xC400#16 == 0x03#8 && flags t.regs == (false, false, false, true) && t.cyclesTotal == 16) = true := by decide
/-- R238. -/
theorem test_step_RRC_C_0x01 : ran (start { regs0 with c := 0x01#8 } [(0xC000, 0xCB#8), (0xC001, 0x09#8)]) (fun t =>
    t.regs.c == 0x80#8 && t.regs.pc == 0xC002#16 && flags t.regs == (false, false, false, true) && t.cyclesTotal == 8) = true := by decide
/-- R238. -/
theorem test_step_RRC_A_the_CB_form_sets_Z : ran (start { regs0 with a := 0x00#8 } [(0xC000, 0xCB#8), (0xC001, 0x0F#8)]) (fun t =>
    t.regs.pc == 0xC002#16 && flags t.regs == (true, false, false, false) && t.cyclesTotal == 8) = true := by decide
/-- R240. -/
theorem test_step_RL_D_0x80_Cf_0 : ran (start { regs0 with d := 0x80#8 } [(0xC000, 0xCB#8), (0xC001, 0x12#8)]) (fun t =>
    t.regs.d == 0x00#8 && t.regs.pc == 0xC002#16 && flags t.regs == (true, false, false, true) && t.cyclesTotal == 8) = true := by decide
/-- R240. -/
theorem test_step_RL_D_0x11_Cf_1 : ran (start { regs0 with d := 0x11#8, cf := true } [(0xC000, 0xCB#8), (0xC001, 0x12#8)]) (fun t =>
    t.regs.d == 0x23#8 && t.regs.pc == 0xC002#16 && flags t.regs == (false, false, false, false) && t.cyclesTotal == 8) = true := by decide
/-- R241. -/
theorem test_step_RL_HL_in_the_cartridge_faults_at_the_wri : ran { start { regs0 with h := 0x02#8, l := 0x00#8 } [(0xC000, 0xCB#8), (0xC001, 0x16#8)] with cfg := { Config.standard with romPad := 0x00#8 } } (fun t =>
    faultOf t == some (Fault.readOnlyViolation 0x0200#16) && t.regs.sp == 0xDFF0#16 && t.regs.pc == 0xC000#16) = true := by decide
/-- R242. -/
theorem test_step_RR_E_0x01_Cf_0 : ran (start { regs0 with e := 0x01#8 } [(0xC000, 0xCB#8), (0xC001, 0x1B#8)]) (fun t =>
    t.regs.e == 0x00#8 && t.regs.pc == 0xC002#16 && flags t.regs == (true, false, false, true) && t.cyclesTotal == 8) = true := by decide
/-- R244. -/
theorem test_step_SLA_H_0x80 : ran (start { regs0 with h := 0x80#8 } [(0xC000, 0xCB#8), (0xC001, 0x24#8)]) (fun t =>
    t.regs.h == 0x00#8 && t.regs.pc == 0xC002#16 && flags t.regs == (true, false, false, true) && t.cyclesTotal == 8) = true := by decide
/-- R246. -/
theorem test_step_SRA_L_0x81 : ran (start { regs0 with l := 0x81#8 } [(0xC000, 0xCB#8), (0xC001, 0x2D#8)]) (fun t =>
    t.regs.l == 0xC0#8 && t.regs.pc == 0xC002#16 && flags t.regs == (false, false, false, true) && t.cyclesTotal == 8) = true := by decide
/-- R248. -/
theorem test_step_SWAP_A_0xF0 : ran (start { regs0 with a := 0xF0#8, cf := true } [(0xC000, 0xCB#8), (0xC001, 0x37#8)]) (fun t =>
    t.regs.a == 0x0F#8 && t.regs.pc == 0xC002#16 && flags t.regs == (false, false, false, false) && t.cyclesTotal == 8) = true := by decide
/-- R250. -/
theorem test_step_SRL_A_0x01 : ran (start { regs0 with a := 0x01#8 } [(0xC000, 0xCB#8), (0xC001, 0x3F#8)]) (fun t =>
    t.regs.a == 0x00#8 && t.regs.pc == 0xC002#16 && flags t.regs == (true, false, false, true) && t.cyclesTotal == 8) = true := by decide
/-- R251. -/
theorem test_step_SRL_HL_0x80 : ran (start { regs0 with h := 0xC6#8, l := 0x05#8 } [(0xC605, 0x80#8), (0xC000, 0xCB#8), (0xC001, 0x3E#8)]) (fun t =>
    t.regs.pc == 0xC002#16 && t.memByte 0xC605#16 == 0x40#8 && flags t.regs == (false, false, false, false) && t.cyclesTotal == 16) = true := by decide
/-- R252. -/
theorem test_step_BIT_7_H_with_H_0x80 : ran (start { regs0 with h := 0x80#8, cf := true } [(0xC000, 0xCB#8), (0xC001, 0x7C#8)]) (fun t =>
    t.regs.pc == 0xC002#16 && flags t.regs == (false, false, true, true) && t.cyclesTotal == 8) = true := by decide
/-- R252. -/
theorem test_step_BIT_4_H_with_H_0x10 : ran (start { regs0 with h := 0x10#8 } [(0xC000, 0xCB#8), (0xC001, 0x64#8)]) (fun t =>
    t.regs.pc == 0xC002#16 && flags t.regs == (false, false, true, false) && t.cyclesTotal == 8) = true := by decide
/-- R253. -/
theorem test_step_BIT_3_HL_in_the_cartridge_read_only_no_f : ran { start { regs0 with h := 0x01#8, l := 0x00#8, zf := false } [(0xC000, 0xCB#8), (0xC001, 0x5E#8)] with cfg := { Config.standard with romPad := 0x00#8 } } (fun t =>
    t.regs.pc == 0xC002#16 && flags t.regs == (true, false, true, false) && t.cyclesTotal == 12) = true := by decide
/-- R254. -/
theorem test_step_RES_0_B : ran (start { regs0 with b := 0xFF#8 } [(0xC000, 0xCB#8), (0xC001, 0x80#8)]) (fun t =>
    t.regs.b == 0xFE#8 && t.regs.pc == 0xC002#16 && flags t.regs == (false, false, false, false) && t.cyclesTotal == 8) = true := by decide
/-- R255. -/
theorem test_step_RES_7_HL : ran (start { regs0 with h := 0xC4#8, l := 0x01#8 } [(0xC401, 0xFF#8), (0xC000, 0xCB#8), (0xC001, 0xBE#8)]) (fun t =>
    t.regs.pc == 0xC002#16 && t.memByte 0xC401#16 == 0x7F#8 && flags t.regs == (false, false, false, false) && t.cyclesTotal == 16) = true := by decide
/-- R256. -/
theorem test_step_SET_7_A : ran (start { regs0 with a := 0x00#8, zf := true } [(0xC000, 0xCB#8), (0xC001, 0xFF#8)]) (fun t =>
    t.regs.a == 0x80#8 && t.regs.pc == 0xC002#16 && flags t.regs == (true, false, false, false) && t.cyclesTotal == 8) = true := by decide
/-- R257. -/
theorem test_step_SET_0_HL_in_the_cartridge : ran { start { regs0 with h := 0x00#8, l := 0x10#8 } [(0xC000, 0xCB#8), (0xC001, 0xC6#8)] with cfg := { Config.standard with romPad := 0x00#8 } } (fun t =>
    faultOf t == some (Fault.readOnlyViolation 0x0010#16) && t.regs.sp == 0xDFF0#16 && t.regs.pc == 0xC000#16) = true := by decide
/-- R271. -/
theorem test_step_JP_nn : ran (start regs0 [(0xC000, 0xC3#8), (0xC001, 0x34#8), (0xC002, 0x12#8)]) (fun t =>
    t.regs.pc == 0x1234#16 && flags t.regs == (false, false, false, false) && t.cyclesTotal == 16) = true := by decide
/-- R272. -/
theorem test_step_JP_NZ_nn_not_taken : ran (start { regs0 with zf := true } [(0xC000, 0xC2#8), (0xC001, 0x34#8), (0xC002, 0x12#8)]) (fun t =>
    t.regs.pc == 0xC003#16 && flags t.regs == (true, false, false, false) && t.cyclesTotal == 12) = true := by decide
/-- R272. -/
theorem test_step_JP_C_nn_taken : ran (start { regs0 with cf := true } [(0xC000, 0xDA#8), (0xC001, 0x34#8), (0xC002, 0x12#8)]) (fun t =>
    t.regs.pc == 0x1234#16 && flags t.regs == (false, false, false, true) && t.cyclesTotal == 16) = true := by decide
/-- R273. -/
theorem test_step_JP_HL : ran (start { regs0 with h := 0x40#8, l := 0x00#8 } [(0xC000, 0xE9#8)]) (fun t =>
    t.regs.pc == 0x4000#16 && flags t.regs == (false, false, false, false) && t.cyclesTotal == 4) = true := by decide
/-- R274. -/
theorem test_step_JR_5 : ran { start { regs0 with pc := 0x0150#16 } [] with cfg := { Config.standard with rom := List.replicate 0x150 0x00#8 ++ [0x18#8, 0x05#8] } } (fun t =>
    t.regs.pc == 0x0157#16 && flags t.regs == (false, false, false, false) && t.cyclesTotal == 12) = true := by decide
/-- R274. -/
theorem test_step_JR_m3_targets_the_preceding_byte : ran { start { regs0 with pc := 0x0150#16 } [] with cfg := { Config.standard with rom := List.replicate 0x150 0x00#8 ++ [0x18#8, 0xFD#8] } } (fun t =>
    t.regs.pc == 0x014F#16 && flags t.regs == (false, false, false, false) && t.cyclesTotal == 12) = true := by decide
/-- R275. -/
theorem test_step_JR_NZ_m5_taken : ran { start { regs0 with pc := 0x0105#16, zf := false } [] with cfg := { Config.standard with rom := List.replicate 0x105 0x00#8 ++ [0x20#8, 0xFB#8] } } (fun t =>
    t.regs.pc == 0x0102#16 && flags t.regs == (false, false, false, false) && t.cyclesTotal == 12) = true := by decide
/-- R275. -/
theorem test_step_JR_NZ_m5_not_taken : ran { start { regs0 with pc := 0x0105#16, zf := true } [] with cfg := { Config.standard with rom := List.replicate 0x105 0x00#8 ++ [0x20#8, 0xFB#8] } } (fun t =>
    t.regs.pc == 0x0107#16 && flags t.regs == (true, false, false, false) && t.cyclesTotal == 8) = true := by decide
/-- R276. -/
theorem test_step_CALL_nn : ran { start { regs0 with pc := 0x0150#16, sp := 0xFFFE#16 } [] with cfg := { Config.standard with rom := List.replicate 0x150 0x00#8 ++ [0xCD#8, 0x00#8, 0x02#8] } } (fun t =>
    t.regs.sp == 0xFFFC#16 && t.regs.pc == 0x0200#16 && t.memByte 0xFFFC#16 == 0x53#8 && t.memByte 0xFFFD#16 == 0x01#8 && flags t.regs == (false, false, false, false) && t.cyclesTotal == 24) = true := by decide
/-- R277. -/
theorem test_step_CALL_Z_nn_not_taken : ran (start { regs0 with sp := 0xFFFE#16, zf := false } [(0xC000, 0xCC#8), (0xC001, 0x00#8), (0xC002, 0x02#8)]) (fun t =>
    t.regs.pc == 0xC003#16 && flags t.regs == (false, false, false, false) && t.cyclesTotal == 12) = true := by decide
/-- R277. -/
theorem test_step_CALL_NC_nn_taken : ran { start { regs0 with pc := 0x0150#16, sp := 0xFFFE#16, cf := false } [] with cfg := { Config.standard with rom := List.replicate 0x150 0x00#8 ++ [0xD4#8, 0x00#8, 0x03#8] } } (fun t =>
    t.regs.sp == 0xFFFC#16 && t.regs.pc == 0x0300#16 && t.memByte 0xFFFC#16 == 0x53#8 && t.memByte 0xFFFD#16 == 0x01#8 && flags t.regs == (false, false, false, false) && t.cyclesTotal == 24) = true := by decide
/-- R278. -/
theorem test_step_RET : ran (start { regs0 with sp := 0xFFFC#16 } [(0xFFFC, 0x53#8), (0xFFFD, 0x01#8), (0xC000, 0xC9#8)]) (fun t =>
    t.regs.sp == 0xFFFE#16 && t.regs.pc == 0x0153#16 && flags t.regs == (false, false, false, false) && t.cyclesTotal == 16) = true := by decide
/-- R279. -/
theorem test_step_RET_NC_taken : ran (start { regs0 with sp := 0xFFFC#16, cf := false } [(0xFFFC, 0x53#8), (0xFFFD, 0x01#8), (0xC000, 0xD0#8)]) (fun t =>
    t.regs.sp == 0xFFFE#16 && t.regs.pc == 0x0153#16 && flags t.regs == (false, false, false, false) && t.cyclesTotal == 20) = true := by decide
/-- R279. -/
theorem test_step_RET_NC_not_taken : ran (start { regs0 with sp := 0xFFFC#16, cf := true } [(0xFFFC, 0x53#8), (0xFFFD, 0x01#8), (0xC000, 0xD0#8)]) (fun t =>
    t.regs.pc == 0xC001#16 && flags t.regs == (false, false, false, true) && t.cyclesTotal == 8) = true := by decide
/-- R280. -/
theorem test_step_RETI : ran (start { regs0 with sp := 0xFFFC#16 } [(0xFFFC, 0x00#8), (0xFFFD, 0x02#8), (0xC000, 0xD9#8)]) (fun t =>
    t.regs.sp == 0xFFFE#16 && t.regs.pc == 0x0200#16 && t.ime == true && flags t.regs == (false, false, false, false) && t.cyclesTotal == 16) = true := by decide
/-- R282. -/
theorem test_step_RST_38H : ran (start { regs0 with sp := 0xFFFE#16 } [(0xC000, 0xFF#8)]) (fun t =>
    t.regs.sp == 0xFFFC#16 && t.regs.pc == 0x0038#16 && t.memByte 0xFFFC#16 == 0x01#8 && t.memByte 0xFFFD#16 == 0xC0#8 && flags t.regs == (false, false, false, false) && t.cyclesTotal == 16) = true := by decide
/-- R300. -/
theorem test_step_NOP : ran (start regs0 [(0xC000, 0x00#8)]) (fun t =>
    t.regs.pc == 0xC001#16 && flags t.regs == (false, false, false, false) && t.cyclesTotal == 4) = true := by decide
/-- R301. -/
theorem test_step_undefined_0xD3 : ran (start regs0 [(0xC000, 0xD3#8)]) (fun t =>
    faultOf t == some (Fault.decodeError 0xD3#8 false 0xC000#16) && t.regs.sp == 0xDFF0#16 && t.regs.pc == 0xC000#16) = true := by decide
/-- R302. -/
theorem test_step_HALT : ran (start regs0 [(0xC000, 0x76#8)]) (fun t =>
    t.regs.pc == 0xC001#16 && t.status == Status.halted && flags t.regs == (false, false, false, false) && t.cyclesTotal == 4) = true := by decide
/-- R303. -/
theorem test_step_STOP : ran (start regs0 [(0xC000, 0x10#8), (0xC001, 0x00#8)]) (fun t =>
    t.regs.pc == 0xC002#16 && t.status == Status.halted && flags t.regs == (false, false, false, false) && t.cyclesTotal == 4) = true := by decide
/-- R304. -/
theorem test_step_DI : ran { start regs0 [(0xC000, 0xF3#8)] with ime := true } (fun t =>
    t.regs.pc == 0xC001#16 && flags t.regs == (false, false, false, false) && t.cyclesTotal == 4) = true := by decide
/-- R305. -/
theorem test_step_EI : ran (start regs0 [(0xC000, 0xFB#8)]) (fun t =>
    t.regs.pc == 0xC001#16 && flags t.regs == (false, false, false, false) && t.cyclesTotal == 4) = true := by decide

/-! ## The display, the bus, the load and the latency: rows of spec/95_test_vectors.md sections 2.7 to 2.9 -/

/-- The PPU of section 2.7 with the LCD on, in a mode with a countdown and a scanline. -/
def lcd (m : Mode) (countdown : Nat) (ly : Byte) : Ppu := ⟨0x91#8, 0x00#8, 0xE4#8, m, countdown, ly, [], []⟩

/-- Mode, countdown, scanline and number of frames. -/
def seen (p : Ppu) : Mode × Nat × Byte × Nat := (p.mode, p.countdown, p.ly, p.framesOut.length)

/-- The shades of R7. -/
def shades : ShadeColors := Config.standard.shades

/-- R323: "carry-over: 100 from OAM". -/
theorem test_ppu_carry : seen ((lcd .oam 83 0#8).advance shades [] 100) = (.transfer, 158, 0#8, 0) := by decide
/-- R323: "one line". -/
theorem test_ppu_line : seen ((lcd .oam 83 0#8).advance shades [] 465) = (.oam, 83, 1#8, 0) := by decide
/-- R323: "143 lines + 464" and then one more cycle. -/
theorem test_ppu_vblank : seen ((lcd .hblank 1 143#8).advance shades [] 1) = (.vblank, 4560, 144#8, 0) := by decide
/-- R323: "VBlank + 455" and "VBlank + 456". -/
theorem test_ppu_vblank_line : seen ((lcd .vblank 4560 144#8).advance shades [] 455) = (.vblank, 4105, 144#8, 0) ∧
    seen ((lcd .vblank 4560 144#8).advance shades [] 456) = (.vblank, 4104, 145#8, 0) := by decide
/-- R346: "hand-off happens at VBlank exit only". -/
theorem test_ppu_frame : seen ((lcd .vblank 4560 144#8).advance shades [] 4559) = (.vblank, 1, 153#8, 0) ∧
    seen ((lcd .vblank 1 153#8).advance shades [] 1) = (.oam, 83, 0#8, 1) := by decide
/-- R324: "LCD off freezes". -/
theorem test_ppu_off : seen (Ppu.advance shades [] 100000 { lcd .oam 83 0#8 with lcdc := 0x11#8 }) = (.oam, 83, 0#8, 0) := by
  decide
/-- The VRAM of the rows R343 and R340: tile 1 in the map at (0, 0), its row 0 = 3C 7E. -/
def tileMem : Memory := Memory.ofCells [(0x9800, 0x01#8), (0x8010, 0x3C#8), (0x8011, 0x7E#8)]
/-- R343: the first eight pixels of line 0. -/
theorem test_render : (List.range 8).map (pixelColor shades tileMem 0x00#8 0xE4#8 0#8) =
    [0x00FFFFFF#32, 0x00555555#32, 0x00000000#32, 0x00000000#32, 0x00000000#32, 0x00000000#32, 0x00555555#32,
      0x00FFFFFF#32] := by decide
/-- R336: with SCY = 0xF8 line 8 shows map row 0. -/
theorem test_render_scroll : pixelColor shades tileMem 0xF8#8 0xE4#8 8#8 1 = 0x00555555#32 := by decide
/-- R340: BGP = 0x1B inverts. -/
theorem test_render_palette : (List.range 3).map (pixelColor shades tileMem 0x00#8 0x1B#8 0#8) =
    [0x00000000#32, 0x00AAAAAA#32, 0x00FFFFFF#32] := by decide

/-- A booting machine: the overlay starts with B0 and the image with 31, as in the rows R73. -/
def booting : State :=
  { start regs0 [] with bootLatch := true, cfg := { Config.standard with rom := [0x31#8], boot := some (0xB0#8 :: List.replicate 255 0x00#8) } }
/-- R73, R63: the overlay's first byte, then ROM_PAD past the image. -/
theorem test_boot_read : booting.busRead 0x0000#16 = .ok 0xB0#8 ∧ booting.busRead 0x0100#16 = .ok 0xFF#8 := ⟨rfl, rfl⟩
/-- R395: after a write of 0xFF50 the image shows. -/
theorem test_boot_leave : (booting.busWrite 0xFF50#16 0x00#8).bind (fun t => t.busRead 0x0000#16) = .ok 0x31#8 := rfl

/-- An image of `n` zero bytes with a mapper byte at 0x147 (R377). -/
def image (mapper : Byte) : List Byte := List.replicate 0x147 0x00#8 ++ [mapper]
/-- The load inputs of an image. -/
def loading (rom : Option (List Byte)) : LoadInput := { standardInput with rom := rom, start := .postBoot }
theorem image_length (b : Byte) : (image b).length = 0x148 := by
  rw [image, List.length_append, List.length_replicate]; rfl
theorem image_mapper (b : Byte) : (image b)[0x147]? = some b := by
  rw [image, List.getElem?_append_right (by rw [List.length_replicate]), List.length_replicate]; rfl
/-- R377: "header 0x147 = 0x01", "0xFF" and "image of 0x148 bytes, byte 0x147 = 0x00". -/
theorem test_load_mapper : load (loading (some (image 0x01#8))) = .error (.loadError (.unsupportedMapper 0x01#8)) ∧
    load (loading (some (image 0xFF#8))) = .error (.loadError (.unsupportedMapper 0xFF#8)) ∧
    load (loading (some (image 0x00#8))) = .ok (resetState (loading (some (image 0x00#8))) (image 0x00#8)) := by
  refine ⟨?_, ?_, ?_⟩ <;> simp only [load, loading, List.getD, image_length, image_mapper, Nat.lt_irrefl, if_false] <;> rfl
/-- R377: "image of 0x147 bytes", and no image. -/
theorem test_load_short : load (loading (some (List.replicate 0x147 0x00#8))) = .error (.loadError .tooShort) ∧
    load (loading none) = .error (.loadError .unreadable) := by
  refine ⟨?_, rfl⟩
  simp only [load, loading, List.length_replicate]
  rfl
/-- R44: the PostBoot values. -/
theorem test_post_boot : (resetState (loading none) []).regs.af = 0x01B0#16 ∧ (resetState (loading none) []).regs.sp = 0xFFFE#16 ∧
    (resetState (loading none) []).regs.pc = 0x0100#16 := ⟨rfl, rfl, rfl⟩

/-- Section 2.9: DI sets (2, false) and keeps ime. -/
theorem test_di : ran { start regs0 [(0xC000, 0xF3#8)] with ime := true } (fun t =>
    t.ime == true && t.imePend == some ⟨.two, false⟩) = true := by decide
/-- Section 2.9: the first step after DI keeps ime, the second has it false. -/
theorem test_di_latency : ran { start regs0 [] with ime := true, imePend := some ⟨.two, false⟩ } (fun t =>
      t.ime == true && t.imePend == some ⟨.one, false⟩) = true ∧
    ran { start regs0 [] with ime := true, imePend := some ⟨.one, false⟩ } (fun t => t.ime == false && t.imePend == none) = true := by
  decide
/-- Section 2.9: RETI sets ime at once and leaves a pending DI. -/
theorem test_reti_pending : ran { start regs0 [(0xC000, 0xD9#8), (0xDFF0, 0x00#8), (0xDFF1, 0xC1#8)] with imePend := some ⟨.two, false⟩ }
    (fun t => t.ime == true && t.imePend == some ⟨.one, false⟩ && t.regs.pc == 0xC100#16) = true := by decide
/-- R306: with ADMIT_GENERAL = false NOP is a DecodeError, and LD A,n is admitted. -/
theorem test_admit : ran { start regs0 [] with cfg := { Config.standard with admitGeneral := false } } (fun t =>
      faultOf t == some (Fault.decodeError 0x00#8 false 0xC000#16)) = true ∧
    ran { start regs0 [(0xC000, 0x3E#8), (0xC001, 0x91#8)] with cfg := { Config.standard with admitGeneral := false } } (fun t =>
      t.regs.a == 0x91#8) = true := by decide
/-- R306: CB 00 is the DecodeError of the second byte. -/
theorem test_admit_cb : ran { start regs0 [(0xC000, 0xCB#8)] with cfg := { Config.standard with admitGeneral := false } } (fun t =>
    faultOf t == some (Fault.decodeError 0x00#8 true 0xC000#16)) = true := by decide
/-- R234 under ACC_ROTATE_Z = AlwaysClear. -/
theorem test_acc_rotate : ran { start { regs0 with a := 0x80#8 } [(0xC000, 0x17#8)] with cfg := { Config.standard with accRotateZ := .alwaysClear } }
    (fun t => t.regs.a == 0x00#8 && flags t.regs == (false, false, false, true)) = true := by decide
/-- R54: a fetch at 0x4000 faults with the instruction's address. -/
theorem test_fetch_unmapped : ran (start { regs0 with pc := 0x4000#16 } []) (fun t =>
    faultOf t == some (Fault.busError 0x4000#16 .read) && t.regs.pc == 0x4000#16) = true := by decide

/-- The host's words: LD A,0x91 and BIT 7,H by their table numbers. -/
theorem test_table_word : decodeTableWord 16 0x913E = some (.ld_A_n 0x91#8) ∧ decodeTableWord 16 0xCB7C = some .bit_7_H ∧
    decodeTableWord 24 0x123401 = some (.ld_BC_nn 0x1234#16) ∧ decodeTableWord 8 0x06 = some (.ld_B_n 0x00#8) := by decide
/-- A placed word is the next instruction. -/
theorem test_with_fetch_word : ran (State.reset.withFetchWord 16 0x913E) (fun t => t.regs.a == 0x91#8 && t.regs.pc == 0x0002#16) = true := by
  decide

/-! ## Witnesses: for each statement with hypotheses, a state and operands that meet them, at the ends of their ranges -/

/-- `DecodeOfEncoded`, `StepRunsDecodedInstruction`: well-formed instructions at the ends of the displacement. -/
theorem witness_wellFormed : (Instr.jr_e (-128)).wellFormed = true ∧ (Instr.ld_HL_SPe 127).wellFormed = true ∧
    Instr.halt.wellFormed = true := by decide
/-- `EncodeOfDecoded`: bytes that decode, of each length, with and without a rest. -/
theorem witness_EncodeOfDecoded : decode [0xCB#8, 0xFF#8] = .ok (.set_7_A, []) ∧ decode [0x18#8, 0x80#8, 0x00#8] = .ok (.jr_e (-128), [0x00#8]) ∧
    decode [0xFA#8, 0xFF#8, 0xFF#8] = .ok (.ld_A_mnn 0xFFFF#16, []) ∧ decode [0xFD#8] = .ok (.undefined_FD, []) := ⟨rfl, rfl, rfl, rfl⟩
/-- `StepRunsDecodedInstruction`: a three-byte instruction at the end of HRAM, and a prefixed one, with every hypothesis. -/
theorem witness_StepRunsDecodedInstruction :
    (let s := start { regs0 with pc := 0xFFFC#16 } [(0xFFFC, 0xC3#8), (0xFFFD, 0x34#8), (0xFFFE, 0x12#8)];
      s.status = .running ∧ s.bootMissing = false ∧ (Instr.jp_nn 0x1234#16).wellFormed = true ∧
        admits s.cfg (Instr.jp_nn 0x1234#16).opcode = true ∧
        ∀ k v, (encode (Instr.jp_nn 0x1234#16))[k]? = some v → s.startOfStep.busRead (s.regs.pc + BitVec.ofNat 16 k) = .ok v) ∧
      (let s := { start regs0 [(0xC000, 0xCB#8), (0xC001, 0x7C#8)] with imePend := some ⟨.one, true⟩, cfg := { Config.standard with admitGeneral := false } };
        s.status = .running ∧ s.bootMissing = false ∧ Instr.bit_7_H.wellFormed = true ∧ admits s.cfg Instr.bit_7_H.opcode = true ∧
          ∀ k v, (encode Instr.bit_7_H)[k]? = some v → s.startOfStep.busRead (s.regs.pc + BitVec.ofNat 16 k) = .ok v) := by
  refine ⟨⟨rfl, rfl, rfl, rfl, fun k v h => ?_⟩, rfl, rfl, rfl, rfl, fun k v h => ?_⟩
  · match k with
    | 0 => cases h; rfl
    | 1 => cases h; rfl
    | 2 => cases h; rfl
    | k + 3 => cases h
  · match k with
    | 0 => cases h; rfl
    | 1 => cases h; rfl
    | k + 2 => cases h
/-- `StartOfStepAction`: a state for each of the pending toggles, and DI and EI answer. -/
theorem witness_StartOfStepAction : (start regs0 []).imePend = none ∧
    { start regs0 [] with imePend := some ⟨.two, true⟩ }.imePend = some ⟨.two, true⟩ ∧
    { start regs0 [] with imePend := some ⟨.one, false⟩ }.imePend = some ⟨.one, false⟩ ∧
    (∃ t, exec .di (start regs0 []) = .next t) ∧ ∃ t, exec .ei (start regs0 []) = .next t :=
  ⟨rfl, rfl, rfl, ⟨_, rfl⟩, _, rfl⟩
/-- `InterruptEnableLatency`: EI and then NOP, DI and then a load that faults. -/
theorem witness_InterruptEnableLatency :
    (∃ t u, exec (if true then .ei else .di) (start regs0 []) = .next t ∧ exec .nop t.startOfStep = .next u) ∧
      ∃ t u, exec (if false then .ei else .di) (start { regs0 with h := 0xFF#8, l := 0xFF#8 } []) = .next t ∧
        exec .ld_A_mHL t.startOfStep = .next u :=
  ⟨⟨_, _, rfl, rfl⟩, _, _, rfl, rfl⟩
/-- `TerminalStatus`: a halted and a faulted state. -/
theorem witness_TerminalStatus : { start regs0 [] with status := .halted }.status ≠ .running ∧
    ((start regs0 []).stopped (.busError 0xFFFF#16 .read)).status ≠ .running := by decide
/-- `StepStopsOnlyWithoutBootRom`: the reset state refuses, a booting state and a halted one do not. -/
theorem witness_StepStopsOnlyWithoutBootRom :
    (State.reset.status = .running ∧ State.reset.bootLatch = true ∧ State.reset.cfg.boot = none) ∧
      ¬(booting.status = .running ∧ booting.bootLatch = true ∧ booting.cfg.boot = none) ∧
      ¬({ State.reset with status := .halted }.status = .running ∧ State.reset.bootLatch = true ∧ State.reset.cfg.boot = none) :=
  ⟨⟨rfl, rfl, rfl⟩, fun h => (by cases h.2.2), fun h => (by cases h.1)⟩
/-- `FetchFaultsInOrder`: an unmapped PC at both ends of a hole; a prefix, a two-byte and a three-byte instruction whose
next byte lies past the end of WRAM; and a three-byte one whose last byte does. -/
theorem witness_FetchFaultsInOrder :
    unmappedAddr 0x4000#16 = true ∧ unmappedAddr 0xFFFF#16 = true ∧
      ((start regs0 [(0xDFFF, 0xCB#8)]).busRead 0xDFFF#16 = .ok 0xCB#8 ∧ unmappedAddr (0xDFFF#16 + 1#16) = true) ∧
      ((start regs0 [(0xDFFF, 0x3E#8)]).busRead 0xDFFF#16 = .ok 0x3E#8 ∧ admits Config.standard (.base 0x3E#8) = true ∧
        2 ≤ instrLength 0x3E#8) ∧
      ((start regs0 [(0xDFFF, 0xC3#8)]).busRead 0xDFFF#16 = .ok 0xC3#8 ∧ admits Config.standard (.base 0xC3#8) = true ∧
        instrLength 0xC3#8 = 3) ∧
      ((start regs0 [(0xDFFE, 0xC3#8), (0xDFFF, 0x12#8)]).busRead (0xDFFE#16 + 1#16) = .ok 0x12#8 ∧
        unmappedAddr (0xDFFE#16 + 2#16) = true) ∧
      (start regs0 []).status = .running ∧ (start regs0 []).bootMissing = false :=
  ⟨rfl, rfl, ⟨rfl, rfl⟩, ⟨rfl, rfl, by decide⟩, ⟨rfl, rfl, rfl⟩, ⟨rfl, rfl⟩, rfl, rfl⟩
/-- `GeneralKnowledgeRowsRemoved`: NOP is not source-named, RLC B is not, RL B and BIT 7,A are. -/
theorem witness_GeneralKnowledgeRowsRemoved :
    (let s := { start regs0 [(0xC000, 0xCB#8)] with cfg := { Config.standard with admitGeneral := false } };
      s.status = .running ∧ s.bootMissing = false ∧ s.cfg.admitGeneral = false ∧ s.busRead 0xC000#16 = .ok 0xCB#8 ∧
        s.busRead 0xC001#16 = .ok 0x00#8 ∧ s.busRead 0xC002#16 = .ok 0x00#8) ∧
      sourceNamed (.base 0x00#8) = false ∧ sourceNamed (.cb 0x00#8) = false ∧ sourceNamed (.cb 0x0F#8) = false ∧
      sourceNamed (.cb 0x10#8) = true ∧ sourceNamed (.cb 0x17#8) = true ∧ sourceNamed (.cb 0x18#8) = false ∧
      sourceNamed (.cb 0x7F#8) = true ∧ sourceNamed (.cb 0x80#8) = false :=
  ⟨⟨rfl, rfl, rfl, rfl, rfl, rfl⟩, rfl, rfl, rfl, rfl, rfl, rfl, rfl, rfl⟩
/-- `FaultRestoresEngine`, `FaultSources`: an undefined byte, a read and a store at the last address, and a store below
0x4000, each of which faults. -/
theorem witness_fault :
    (∃ t rec, exec .undefined_DD (start regs0 []) = .next t ∧ t.status = .faulted rec) ∧
      (∃ t rec, exec (.ld_A_mnn 0xFFFF#16) (start regs0 []) = .next t ∧ t.status = .faulted rec) ∧
      (∃ t rec, exec (.ld_mnn_A 0xFFFF#16) (start regs0 []) = .next t ∧ t.status = .faulted rec) ∧
      (∃ t rec, exec (.ld_mnn_A 0x3FFF#16) (start regs0 []) = .next t ∧ t.status = .faulted rec) ∧
      (start regs0 []).status = .running :=
  ⟨⟨_, _, rfl, rfl⟩, ⟨_, _, rfl, rfl⟩, ⟨_, _, rfl, rfl⟩, ⟨_, _, rfl, rfl⟩, rfl⟩
/-- `UnmappedAndReadOnlyAccesses`, `DisplayRegisterPorts`: the ends of each range, and an address the PPU does not own. -/
theorem witness_addresses :
    [0x4000#16, 0x7FFF#16, 0xA000#16, 0xBFFF#16, 0xE000#16, 0xFEFF#16, 0xFFFF#16].all (fun a =>
        unmappedAddr a && ((start regs0 []).busWrite a 0x01#8).toOption.isNone) = true ∧
      [0x0000#16, 0x3FFF#16].all (fun a => decide (a.toNat < 0x4000) && ((start regs0 []).busRead a).toOption.isSome) = true ∧
      [0x8000#16, 0x9FFF#16, 0xC000#16, 0xDFFF#16, 0xFF00#16, 0xFF7F#16, 0xFF80#16, 0xFFFE#16].all (fun a =>
        ((start regs0 []).busWrite a 0x01#8).toOption.isSome) = true ∧
      0xFF41#16 ∉ [0xFF40#16, 0xFF42#16, 0xFF44#16, 0xFF47#16] := by decide
/-- `BootOverlayAndRom`: the last byte of the overlay, the first past it, and the last of the image and one past it. -/
theorem witness_BootOverlayAndRom : Memory.wf booting.mem = true ∧
    (booting.bootLatch = true ∧ booting.cfg.boot = some (0xB0#8 :: List.replicate 255 0x00#8) ∧
      (0xB0#8 :: List.replicate 255 0x00#8 : List Byte).length = 256 ∧
      (0xB0#8 :: List.replicate 255 0x00#8 : List Byte)[(0x00FF#16).toNat]? = some 0x00#8) ∧
    ((0x0100#16).toNat < 0x4000 ∧ 0x100 ≤ (0x0100#16).toNat ∧ booting.cfg.rom.length ≤ (0x0100#16).toNat) ∧
    ((start regs0 []).bootLatch = false ∧ (0x3FFF#16).toNat < 0x4000 ∧
      { Config.standard with rom := [0x31#8] }.rom[(0x0000#16).toNat]? = some 0x31#8) :=
  ⟨rfl, ⟨rfl, rfl, by rw [List.length_cons, List.length_replicate], by
    show (0xB0#8 :: List.replicate 255 0x00#8 : List Byte)[254 + 1]? = _
    rw [List.getElem?_cons_succ, List.getElem?_replicate]; rfl⟩, by decide, rfl, by decide, rfl⟩
/-- `VramBlocking`: both ends of VRAM, blocked in OAM and Transfer, open in HBlank and with the LCD off. -/
theorem witness_VramBlocking :
    (∀ m ∈ [Mode.oam, Mode.transfer], let s := { start regs0 [] with ppu := lcd m 10 0#8 };
      s.cfg.vramPolicy = .blockOamTransfer ∧ s.ppu.lcdc.getLsbD 7 = true ∧ (s.ppu.mode = .oam ∨ s.ppu.mode = .transfer)) ∧
      (let s := { start regs0 [] with ppu := lcd .hblank 10 0#8 };
        ¬(s.cfg.vramPolicy = .blockOamTransfer ∧ s.ppu.lcdc.getLsbD 7 = true ∧ (s.ppu.mode = .oam ∨ s.ppu.mode = .transfer))) ∧
      (let s := start regs0 [];
        ¬(s.cfg.vramPolicy = .blockOamTransfer ∧ s.ppu.lcdc.getLsbD 7 = true ∧ (s.ppu.mode = .oam ∨ s.ppu.mode = .transfer))) ∧
      0x8000 ≤ (0x8000#16).toNat ∧ (0x9FFF#16).toNat ≤ 0x9FFF := by decide
/-- `ReadAfterWrite`: writes at the ends of WRAM, the ports and HRAM, over a memory that lists a byte. -/
theorem witness_ReadAfterWrite : Memory.wf (start regs0 [(0xC001, 0x05#8)]).mem = true ∧
    [0xC000#16, 0xDFFF#16, 0xFF00#16, 0xFF7F#16, 0xFF80#16, 0xFFFE#16].all (fun a =>
      ((start regs0 [(0xC001, 0x05#8)]).busWrite a 0x01#8).toOption.isSome &&
        decide (a ∉ [0xFF40#16, 0xFF42#16, 0xFF44#16, 0xFF47#16])) = true := by decide
/-- `MemoryExtensionality`: a memory written in two orders. -/
theorem witness_MemoryExtensionality :
    (let m := Memory.ofCells [(0xC000, 0x01#8), (0xFF80, 0x02#8)];
      let m' := Memory.ofCells [(0xFF80, 0x02#8), (0xC000, 0x01#8)];
      Memory.wf m = true ∧ Memory.wf m' = true ∧ ∀ a, Memory.read m a = Memory.read m' a) :=
  ⟨rfl, rfl, fun _ => rfl⟩
/-- `PushPopRoundTrip`: the stack at both ends of WRAM and of HRAM. -/
theorem witness_PushPopRoundTrip : Memory.wf (start regs0 []).mem = true ∧
    [0xC002#16, 0xE000#16, 0xFF82#16, 0xFFFF#16].all (fun (sp : Word) =>
      (decide (0xC000 ≤ (sp - 2#16).toNat) && decide ((sp - 1#16).toNat ≤ 0xDFFF)) ||
        (decide (0xFF80 ≤ (sp - 2#16).toNat) && decide ((sp - 1#16).toNat ≤ 0xFFFE))) = true := by decide
/-- The frames (`RegisterFrame`, `FlagFrame`, `MemoryFrame`, `EngineStateFrame`, `CycleAccounting`): a store, a compare, a
conditional return not taken and a halt answer a next state without a fault, and leave something alone. -/
theorem witness_frames :
    (∃ t, exec .ld_mHL_A (start { regs0 with h := 0xC0#8 } []) = .next t ∧ (∀ rec, t.status ≠ .faulted rec)) ∧
      (∃ t, exec .cp_B (start regs0 []) = .next t ∧ (∀ rec, t.status ≠ .faulted rec)) ∧
      (∃ t, exec .ret_Z (start regs0 []) = .next t ∧ (∀ rec, t.status ≠ .faulted rec)) ∧
      (∃ t, exec .halt (start regs0 []) = .next t ∧ (∀ rec, t.status ≠ .faulted rec)) ∧
      Reg8.a ∉ Instr.cp_B.writes8 ∧ Instr.cp_B.writesSp = false ∧ Instr.bit_7_H.writesFlags.c = false ∧
      Instr.inc_BC.writesFlags.z = false ∧ Instr.add_HL_BC.writesFlags.z = false ∧ Instr.add_HL_BC.writesFlags.h = true ∧
      Instr.inc_BC.writesFlags.n = false ∧ Instr.inc_BC.writesFlags.h = false ∧
      0xC001#16 ∉ Instr.ld_mHL_A.storeAddrs (start { regs0 with h := 0xC0#8 } []) ∧
      Instr.cp_B.storeAddrs (start regs0 []) = [] ∧ (start regs0 []).status = .running :=
  ⟨⟨_, rfl, fun _ h => by cases h⟩, ⟨_, rfl, fun _ h => by cases h⟩, ⟨_, rfl, fun _ h => by cases h⟩,
    ⟨_, rfl, fun _ h => by cases h⟩, by decide, rfl, rfl, rfl, rfl, rfl, rfl, rfl, by decide, rfl, rfl⟩
/-- `StepIsMonotone`, `StepKeepsInvariant`: a state of the invariant that steps. -/
theorem witness_StepKeepsInvariant :
    ∃ t, (resetState (loading none) []).Inv ∧ step (resetState (loading none) []) = .next t := by
  refine ⟨_, ⟨rfl, ?_⟩, rfl⟩
  simp only [resetState, resetPpu, Ppu.wf, shaped_frameOf]
  rfl
/-- `LoadedMachineSatisfiesInvariant`: a load with a byte of INIT_RAM at each end of the store, given twice. -/
theorem witness_LoadedMachineSatisfiesInvariant :
    (∃ s, load { loading (some (image 0x00#8)) with initRam := [(0x8000, 0x01#8), (0xFFFE, 0x02#8), (0x8000, 0x03#8)] } = .ok s) ∧
      (∀ w, (0x8000, w) ∉ ([] : List (Nat × Byte))) ∧ ramAddr 0x8000 = true ∧ ramAddr 0xFFFE = true ∧ ramAddr 0xFFFF = false ∧
      (∀ v : Byte, (0xC000, v) ∉ [(0x8000, 0x01#8), (0xFFFE, 0x02#8), (0x8000, 0x03#8)]) := by
  refine ⟨⟨_, by
    simp only [load, loading, List.getD, image_length, image_mapper, Nat.lt_irrefl, if_false]; rfl⟩, by simp, rfl, rfl, rfl, fun v h => ?_⟩
  simp at h
/-- `LcdOffFreezesDisplay`: the LCD off. -/
theorem witness_LcdOffFreezesDisplay : (start regs0 []).ppu.lcdc.getLsbD 7 = false ∧ ({ lcd .oam 83 0#8 with lcdc := 0x7F#8 } : Ppu).lcdc.getLsbD 7 = false := by
  decide
/-- A PPU with its frame buffer, in a mode with a countdown and a scanline. -/
def fullPpu (m : Mode) (countdown : Nat) (ly : Byte) : Ppu := { lcd m countdown ly with fb := frameOf [] }
/-- `AdvanceIsAdditive`: the PPU in its form in each mode, at the ends of the countdown. -/
theorem witness_AdvanceIsAdditive : (fullPpu .oam 83 0#8).wf = true ∧ (fullPpu .transfer 1 143#8).wf = true ∧
    (fullPpu .hblank 207 143#8).wf = true ∧ (fullPpu .vblank 4560 144#8).wf = true ∧ (fullPpu .vblank 1 153#8).wf = true := by
  refine ⟨?_, ?_, ?_, ?_, ?_⟩ <;> simp only [fullPpu, lcd, Ppu.wf, shaped_frameOf] <;> rfl
/-- `ModeTransitions`, `VBlankScanlines`, `VisibleLineTiming`, `FrameTiming`: a PPU for each clause. -/
theorem witness_ModeTransitions : (lcd .oam 83 0#8).lcdc.getLsbD 7 = true ∧ 1 ≤ (lcd .oam 1 0#8).countdown ∧
    (lcd .oam 83 0#8).mode ≠ .vblank ∧ 82 < (lcd .oam 83 0#8).countdown ∧ (lcd .transfer 1 0#8).mode = .transfer ∧
    ((lcd .hblank 1 142#8).mode = .hblank ∧ (lcd .hblank 1 142#8).ly.toNat < 143) ∧ (lcd .hblank 1 143#8).ly.toNat = 143 ∧
    ((lcd .vblank 4560 144#8).mode = .vblank ∧ (lcd .vblank 4560 144#8).countdown ≤ 4560 ∧ 4559 < (lcd .vblank 4560 144#8).countdown) ∧
    ((lcd .oam 83 143#8).mode = .oam ∧ (lcd .oam 83 143#8).countdown = 83 ∧ (lcd .oam 83 143#8).ly.toNat < 144) ∧
    ((fullPpu .oam 83 0#8).ly = 0#8 ∧ (fullPpu .oam 83 0#8).fb.length = 144) := by
  refine ⟨by decide, by decide, by decide, by decide, by decide, by decide, by decide, by decide, by decide, rfl, ?_⟩
  rw [fullPpu, frameOf, List.length_map, List.length_range]
/-- `RenderedPixel`: the last column, and a row that is not the rendered one. -/
theorem witness_RenderedPixel : 159 < 160 ∧ 1 ≠ (lcd .transfer 175 0#8).ly.toNat := by decide
/-- `ResetValues`, `LoadChecks`: both starts; no image, a short one, a mapper byte that is not 0 and one that is. -/
theorem witness_load : standardInput.start = .powerOn ∧ (loading none).start = .postBoot ∧ (loading none).rom = none ∧
    (List.replicate 0x147 0x00#8 : List Byte).length < 0x148 ∧ (image 0x01#8)[0x147]? = some 0x01#8 ∧ (0x01#8 : Byte) ≠ 0x00#8 ∧
    (image 0x00#8)[0x147]? = some 0x00#8 ∧ 0x148 ≤ (image 0x00#8).length := by
  refine ⟨rfl, rfl, rfl, ?_, image_mapper _, by decide, image_mapper _, ?_⟩
  · rw [List.length_replicate]; decide
  · rw [image_length]
/-- `DefaultCosts`: the default configuration, and an instruction that is no undefined byte. -/
theorem witness_DefaultCosts : Config.standard.costChanges = [] ∧ Config.standard.cbOverhead = 4 ∧ ∀ u, Instr.nop ≠ Instr.undefined u :=
  ⟨rfl, rfl, fun u h => by cases u <;> cases h⟩
/-- `MemoryLoads`, and the forms of the other results that read: a read that succeeds and one that fails. -/
theorem witness_reads : (start regs0 [(0xC001, 0x05#8)]).busRead 0xC001#16 = .ok 0x05#8 ∧
    (start regs0 []).busRead 0xFFFF#16 = .error (.busError 0xFFFF#16 .read) ∧
    State.readSrc (start { regs0 with h := 0xC0#8, l := 0x01#8 } [(0xC001, 0x05#8)]) .mHL = .ok 0x05#8 ∧
    State.readSrc (start { regs0 with b := 0x07#8 } []) (.reg .b) = .ok 0x07#8 ∧
    State.readSrc (start { regs0 with h := 0xE0#8 } []) .mHL = .error (.busError 0xE000#16 .read) := ⟨rfl, rfl, rfl, rfl, rfl⟩
/-- `ByteStores`, `IncDecResult`, `RotateResult`, `BitResult`: a write that succeeds and two that fail. -/
theorem witness_writes : (∃ t, (start regs0 []).busWrite 0xDFFF#16 0x05#8 = .ok t) ∧
    (start regs0 []).busWrite 0xE000#16 0x05#8 = .error (.busError 0xE000#16 .write) ∧
    ((start regs0 []).busRead 0x0000#16 = .ok 0xFF#8 ∧
      (start regs0 []).busWrite 0x0000#16 0x05#8 = .error (.readOnlyViolation 0x0000#16)) := ⟨⟨_, rfl⟩, rfl, rfl, rfl⟩
/-- `WordStoreAndPush`, `CallResult`: two writes that succeed, a first that fails, a second that fails. -/
theorem witness_two_writes : (∃ t u, (start regs0 []).busWrite 0xD000#16 0x05#8 = .ok t ∧ t.busWrite 0xD001#16 0x06#8 = .ok u) ∧
    (start regs0 []).busWrite 0xFFFF#16 0x05#8 = .error (.busError 0xFFFF#16 .write) ∧
    ∃ t, (start regs0 []).busWrite 0xDFFF#16 0x05#8 = .ok t ∧ t.busWrite 0xE000#16 0x06#8 = .error (.busError 0xE000#16 .write) :=
  ⟨⟨_, _, rfl, rfl⟩, rfl, _, rfl, rfl⟩
/-- `PopResult`, `ReturnResult`: two reads that succeed, a first that fails, a second that fails. -/
theorem witness_two_reads : ((start regs0 [(0xDFF0, 0x05#8)]).busRead 0xDFF0#16 = .ok 0x05#8 ∧
      (start regs0 [(0xDFF0, 0x05#8)]).busRead (0xDFF0#16 + 1#16) = .ok 0x00#8) ∧
    (start regs0 []).busRead 0xE000#16 = .error (.busError 0xE000#16 .read) ∧
    ((start regs0 [(0xFFFE, 0x05#8)]).busRead 0xFFFE#16 = .ok 0x05#8 ∧
      (start regs0 []).busRead (0xFFFE#16 + 1#16) = .error (.busError 0xFFFF#16 .read)) := ⟨⟨rfl, rfl⟩, rfl, rfl, rfl⟩
/-- `CallResult`, `ReturnResult`: each condition holds on some flags and fails on others. -/
theorem witness_conditions : ∀ cc, (∃ g : RegFile, g.cond cc = true) ∧ ∃ g : RegFile, g.cond cc = false := by
  intro cc
  cases cc
  · exact ⟨⟨regs0, rfl⟩, { regs0 with zf := true }, rfl⟩
  · exact ⟨⟨{ regs0 with zf := true }, rfl⟩, regs0, rfl⟩
  · exact ⟨⟨regs0, rfl⟩, { regs0 with cf := true }, rfl⟩
  · exact ⟨⟨{ regs0 with cf := true }, rfl⟩, regs0, rfl⟩
/-- `RotateResult`: the four accumulator rotates. -/
theorem witness_RotateResult : (Instr.rra, RotOp.rr) ∈
    [(Instr.rlca, RotOp.rlc), (Instr.rrca, RotOp.rrc), (Instr.rla, RotOp.rl), (Instr.rra, RotOp.rr)] := by decide


end Sys2Proof.Tests
end

section
/-! PROOFS. The statements of spec/10_state.md: the register views, the boot latch, the reset, and what an instruction
and a step leave alone. -/

namespace Sys2Proof.Machine

/-! ## Registers (R22 to R24) -/

/-- The byte F of four flags (R22). -/
def flagByte (z n h c : Bool) : Byte := bitByte z <<< 7 ||| bitByte n <<< 6 ||| bitByte h <<< 5 ||| bitByte c <<< 4

theorem RegFile.f_eq_flagByte (g : RegFile) : g.f = flagByte g.zf g.nf g.hf g.cf := rfl

/-- The flags are the bits of weight 128 to 16 (R22). -/
theorem flagByte_toNat : ∀ z n h c : Bool,
    (flagByte z n h c).toNat = 128 * b2n z + 64 * b2n n + 32 * b2n h + 16 * b2n c := by decide

/-- Bits 3 to 0 of F are 0 (R22). -/
theorem flagByte_low_nibble : ∀ z n h c : Bool, flagByte z n h c &&& 0x0F#8 = 0x00#8 := by decide

/-- The upper bits of a byte as flags give the byte without its bits 3 to 0 (R24). -/
theorem flagByte_getLsbD : ∀ v : Byte,
    flagByte (v.getLsbD 7) (v.getLsbD 6) (v.getLsbD 5) (v.getLsbD 4) = v &&& 0xF0#8 := by decide

theorem RegFile.f_setStack_af (g : RegFile) (v : Word) : (g.setStack .af v).f = loByte v &&& 0xF0#8 := by
  rw [RegFile.f_eq_flagByte, ← flagByte_getLsbD]
  simp [RegFile.setStack, loByte]

/-- AF reads as it was written, without bits 3 to 0 (R24). -/
theorem RegFile.af_setStack_af (g : RegFile) (v : Word) : (g.setStack .af v).af = v &&& 0xFFF0#16 := by
  calc (g.setStack .af v).af
    _ = joinBytes (hiByte v) (loByte v &&& 0xF0#8) := by rw [RegFile.af, RegFile.f_setStack_af]; rfl
    _ = (hiByte v &&& 0xFF#8) ++ (loByte v &&& 0xF0#8) := by
      rw [show (0xFF#8 : Byte) = BitVec.allOnes 8 from rfl, BitVec.and_allOnes]; rfl
    _ = joinBytes (hiByte v) (loByte v) &&& 0xFFF0#16 := BitVec.and_append.symm
    _ = v &&& 0xFFF0#16 := by rw [joinBytes_hi_lo]

/-- Settles O42: the pairs join their halves, and F is its four flags. -/
theorem registerViews : Obligations.RegisterViews := fun g v =>
  ⟨⟨toNat_joinBytes _ _, toNat_joinBytes _ _, toNat_joinBytes _ _, toNat_joinBytes _ _⟩, rfl, rfl, rfl, flagByte_toNat _ _ _ _,
    g.af_setStack_af v, rfl⟩

/-! ## The boot latch and the reads below 0x4000 (R33, R39, R52, R63) -/

/-- The overlay row of the decoder (R52). -/
theorem regionOf_boot {a : Word} (h : a.toNat < 0x100) : regionOf true a = .boot := by
  simp [regionOf, h]

/-- The cartridge row of the decoder (R52). -/
theorem regionOf_cart {b : Bool} {a : Word} (h : a.toNat < 0x4000) (hb : b = false ∨ 0x100 ≤ a.toNat) :
    regionOf b a = .cart := by
  have notBoot : ¬(a.toNat < 0x100 ∧ b = true) := by
    rintro ⟨hlt, rfl⟩
    rcases hb with hb | hb
    · cases hb
    · omega
  simp [regionOf, notBoot, h]

theorem busRead_boot {s : State} {a : Word} (hl : s.bootLatch = true) (h : a.toNat < 0x100) :
    s.busRead a = .ok (readBoot s.cfg a.toNat) := by
  rw [State.busRead, hl, regionOf_boot h]

theorem busRead_cart {s : State} {a : Word} (h : a.toNat < 0x4000) (hl : s.bootLatch = false ∨ 0x100 ≤ a.toNat) :
    s.busRead a = .ok (readProgram s.cfg a.toNat) := by
  rw [State.busRead, regionOf_cart h hl]

/-- A write of 0xFF50 stores its byte and clears the latch (R39). -/
theorem busWrite_bootLatch (s : State) (v : Byte) :
    s.busWrite 0xFF50#16 v = .ok { s.setMemByte 0xFF50#16 v with bootLatch := false } := by
  cases hl : s.bootLatch <;> simp only [State.busWrite, hl] <;> rfl

/-- With the latch clear 0xFF50 reads as a plain port byte (R39, R56). -/
theorem busRead_bootLatch {s : State} (hl : s.bootLatch = false) : s.busRead 0xFF50#16 = .ok (s.memByte 0xFF50#16) := by
  simp only [State.busRead, hl]; rfl

/-- Settles O18: one equation of the bus for each of the three rows. -/
theorem bootOverlayAndRom : Obligations.BootOverlayAndRom := by
  intro s
  refine ⟨fun v hwf => ⟨_, busWrite_bootLatch s v, rfl, ?_, rfl, rfl⟩, fun boot a b hl hboot _ ha hb => ?_,
    fun a ha hl => ?_⟩
  · rw [busRead_bootLatch rfl]
    exact congrArg Except.ok (Memory.read_write_same hwf _ v)
  · rw [busRead_boot hl ha, readBoot, hboot]
    simp [hb]
  · rw [busRead_cart ha hl, readProgram]
    exact ⟨fun b hb => by simp [hb], fun hlen => by simp [hlen]⟩

/-! ## The reset (R44) -/

/-- The state `State.reset` is the reset of the standard input: its frame buffer is the one an empty list gives. -/
theorem reset_eq_resetState : State.reset = resetState standardInput [] := by
  simp only [State.reset, ← frameOf_nil]
  rfl

/-- The PPU after a reset has its form between steps. -/
theorem resetPpu_wf (inp : LoadInput) : (resetPpu inp).wf = true := by
  simp only [Ppu.wf, resetPpu, shaped_frameOf]
  rfl

/-- Every reset gives a state in the invariant. -/
theorem resetState_inv (inp : LoadInput) (rom : List Byte) : (resetState inp rom).Inv :=
  ⟨memOk_initMemory _, resetPpu_wf inp⟩

/-- Settles O30: the invariant holds after every reset, so after this one. -/
theorem resetSatisfiesInvariant : Obligations.ResetSatisfiesInvariant :=
  ⟨reset_eq_resetState ▸ resetState_inv standardInput [], reset_eq_resetState⟩

/-- Settles O39: the reset by its two settings of START. -/
theorem resetValues : Obligations.ResetValues := by
  intro inp rom
  refine ⟨⟨rfl, rfl, rfl, rfl, rfl, rfl, rfl, rfl, rfl, flagByte_low_nibble _ _ _ _⟩, rfl, fun hs => ?_, fun hs => ?_⟩
  · simp [resetState, resetRegs, resetPpu, hs]
  · simp [resetState, resetRegs, resetPpu, RegFile.f, bitByte, hs]

/-! ## What an instruction leaves alone (R21, R25, R26, R28) -/

theorem RegFrame.refl (i : Instr) (g : RegFile) : RegFrame i g g :=
  ⟨fun _ _ => rfl, fun _ => rfl, fun _ => rfl, fun _ => rfl, fun _ => rfl, fun _ => rfl⟩

/-- An instruction changes no register and no flag but its own, on each of its three ends: a fault restores the
register file (R362). -/
theorem Effect.regFrame {i : Instr} {s t : State} (e : Effect i s t) : RegFrame i s.regs t.regs := by
  cases e with
  | fault u f w h => exact .refl i s.regs
  | done u g b p w hg hb hp hh => exact hg
  | halt g hg hh => exact hg

/-- Settles O23, by the frame of the registers. -/
theorem registerFrame : Obligations.RegisterFrame := fun _ _ _ h =>
  have frame := (effect_of h).regFrame
  ⟨frame.r8, frame.sp⟩

/-- Settles O24, by the frame of the registers. -/
theorem flagFrame : Obligations.FlagFrame := fun _ _ _ h =>
  have frame := (effect_of h).regFrame
  ⟨frame.z, frame.n, frame.h, frame.c⟩

/-! ## What no step undoes (R33, R62, R346, R400) -/

/-- From `s` to `t` the configuration stays, the latch is not set, frames are only appended and the cycle count does
not fall. -/
structure Later (s t : State) : Prop where
  cfg : t.cfg = s.cfg
  latch : t.bootLatch = true → s.bootLatch = true
  frames : s.ppu.framesOut <+: t.ppu.framesOut
  cycles : s.cyclesTotal ≤ t.cyclesTotal

/-- States that agree on the four fields. -/
theorem Later.of_eq {s t : State} (hc : t.cfg = s.cfg) (hl : t.bootLatch = s.bootLatch) (hp : t.ppu = s.ppu)
    (hn : t.cyclesTotal = s.cyclesTotal) : Later s t :=
  ⟨hc, hl ▸ id, hp ▸ List.prefix_rfl, hn.ge⟩

theorem Later.trans {s t u : State} (h : Later s t) (h' : Later t u) : Later s u :=
  ⟨h'.cfg.trans h.cfg, h.latch ∘ h'.latch, h.frames.trans h'.frames, h.cycles.trans h'.cycles⟩

/-- The stores of an instruction clear the latch at most. -/
theorem Wrote.later {as : List Word} {s u : State} (w : Wrote as s u) : Later s u := by
  obtain ⟨-, -, -, hn, -, hc⟩ := w.frame
  exact ⟨hc, w.storeFrame.latchOff, w.storeFrame.framesOut ▸ List.prefix_rfl, hn.ge⟩

/-- The end of a completed instruction adds its cost and advances the PPU. -/
theorem retire_later (s : State) (c : Nat) : Later s (s.retire c) :=
  ⟨rfl, id, advance_framesOut c s.ppu, Nat.le_add_right _ _⟩

theorem Effect.later {i : Instr} {s t : State} (e : Effect i s t) : Later s t := by
  cases e with
  | fault u f w h => exact w.later.trans (.of_eq rfl rfl rfl rfl)
  | done u g b p w hg hb hp hh =>
    have update : Later u { u with regs := g, ime := b, imePend := p } := .of_eq rfl rfl rfl rfl
    exact (w.later.trans update).trans (retire_later _ _)
  | halt g hg hh =>
    have update : Later s { s with regs := g } := .of_eq rfl rfl rfl rfl
    exact (update.trans (retire_later _ _)).trans (.of_eq rfl rfl rfl rfl)

theorem startOfStep_later (s : State) : Later s s.startOfStep := by
  obtain ⟨-, hp, hc, hl, hn, -, -⟩ := startOfStep_frame s
  exact .of_eq hc hl hp hn

/-- Every step leads to a later state: it stands still, takes a fault of the fetch, or is an instruction. -/
theorem step_later {s t : State} (h : step s = .next t) : Later s t := by
  obtain ⟨rfl, -⟩ | ⟨-, f, -, rfl⟩ | ⟨-, i, -, hexec⟩ := step_cases h
  · exact .of_eq rfl rfl rfl rfl
  · exact (startOfStep_later s).trans (.of_eq rfl rfl rfl rfl)
  · exact (startOfStep_later s).trans (effect_of hexec).later

/-- Settles O28, by the three ends of a step. -/
theorem stepIsMonotone : Obligations.StepIsMonotone := fun _ _ h =>
  have later := step_later h
  ⟨later.cfg, later.latch, later.frames, later.cycles⟩

end Sys2Proof.Machine
end

section
/-! PROOFS. The statements of spec/20_memory.md: the invariant of a step, memory consistency, the canonical form of the
store, which accesses fail, and the ports of the display registers. -/

namespace Sys2Proof.Machine

/-! ## The invariant (R52, R323, R326, R327, R342) -/

/-- The invariant speaks of the store and the PPU alone. -/
theorem State.Inv.of_eq {s t : State} (h : s.Inv) (hm : t.mem = s.mem) (hp : t.ppu = s.ppu) : t.Inv := by
  rwa [State.Inv, hm, hp]

theorem Wrote.inv {as : List Word} {s u : State} (w : Wrote as s u) (h : s.Inv) : u.Inv :=
  h.imp w.storeFrame.memOk w.storeFrame.ppuWf

/-- The advance at the end of an instruction keeps the invariant: the store stays and the PPU keeps its form. -/
theorem retire_inv {s : State} (h : s.Inv) (c : Nat) : (s.retire c).Inv := h.imp id advance_wf

theorem Effect.inv {i : Instr} {s t : State} (e : Effect i s t) (h : s.Inv) : t.Inv := by
  cases e with
  | fault u f w hf => exact (w.inv h).of_eq rfl rfl
  | done u g b p w hg hb hp hh =>
    have update : State.Inv { u with regs := g, ime := b, imePend := p } := (w.inv h).of_eq rfl rfl
    exact retire_inv update _
  | halt g hg hh =>
    have update : State.Inv { s with regs := g } := h.of_eq rfl rfl
    exact (retire_inv update _).of_eq rfl rfl

theorem startOfStep_inv {s : State} (h : s.Inv) : s.startOfStep.Inv := by
  obtain ⟨hm, hp, -⟩ := startOfStep_frame s
  exact h.of_eq hm hp

/-- Settles O29, by the three ends of a step. -/
theorem stepKeepsInvariant : Obligations.StepKeepsInvariant := by
  intro s t h hstep
  obtain ⟨rfl, -⟩ | ⟨-, f, -, rfl⟩ | ⟨-, i, -, hexec⟩ := step_cases hstep
  · exact h
  · exact (startOfStep_inv h).of_eq rfl rfl
  · exact (effect_of hexec).inv (startOfStep_inv h)

/-! ## Which accesses fail (R53, R55, R64) -/

theorem unmappedAddr_iff (a : Word) : unmappedAddr a = true ↔
    (0x4000 ≤ a.toNat ∧ a.toNat ≤ 0x7FFF) ∨ (0xA000 ≤ a.toNat ∧ a.toNat ≤ 0xBFFF) ∨
      (0xE000 ≤ a.toNat ∧ a.toNat ≤ 0xFEFF) ∨ a.toNat = 0xFFFF := by
  simp [unmappedAddr, or_assoc]

theorem busRead_unmapped {s : State} {a : Word} (h : unmappedAddr a = true) :
    s.busRead a = .error (.busError a .read) := by
  rw [State.busRead, (regionOf_unmapped _ _).2 h]

theorem busWrite_unmapped {s : State} {a : Word} (h : unmappedAddr a = true) (v : Byte) :
    s.busWrite a v = .error (.busError a .write) := by
  rw [State.busWrite, (regionOf_unmapped _ _).2 h]

/-- A read of a mapped address succeeds. -/
theorem busRead_mapped {s : State} {a : Word} (h : unmappedAddr a ≠ true) : ∃ b, s.busRead a = .ok b := by
  cases hr : s.busRead a with
  | ok b => exact ⟨b, rfl⟩
  | error f => exact absurd ((regionOf_unmapped _ _).1 (busRead_error hr).2) h

/-- A write of a mapped address past the cartridge succeeds. -/
theorem busWrite_mapped {s : State} {a : Word} (h : unmappedAddr a ≠ true) (ha : 0x4000 ≤ a.toNat) (v : Byte) :
    ∃ t, s.busWrite a v = .ok t := by
  cases hw : s.busWrite a v with
  | ok t => exact ⟨t, rfl⟩
  | error f =>
    obtain ⟨-, hlow⟩ | ⟨-, hu⟩ := busWrite_error hw
    · omega
    · exact absurd ((regionOf_unmapped _ _).1 hu) h

/-- The overlay and the cartridge refuse every write (R55, R64). -/
theorem busWrite_readOnly {s : State} {a : Word} (h : a.toNat < 0x4000) (v : Byte) :
    s.busWrite a v = .error (.readOnlyViolation a) := by
  by_cases cart : s.bootLatch = false ∨ 0x100 ≤ a.toNat
  · rw [State.busWrite, regionOf_cart h cart]; rfl
  · obtain ⟨latch, low⟩ := not_or.1 cart
    rw [State.busWrite, Bool.eq_true_of_not_eq_false latch, regionOf_boot (Nat.lt_of_not_le low)]; rfl

/-- Settles O16: the decoder's last row, and the two rows that refuse a write. -/
theorem unmappedAndReadOnlyAccesses : Obligations.UnmappedAndReadOnlyAccesses := by
  intro s a v
  refine ⟨fun h => ?_, fun h => ?_, fun h => ?_⟩
  · have unmapped := (unmappedAddr_iff a).2 h
    exact ⟨busRead_unmapped unmapped, busWrite_unmapped unmapped v⟩
  · have mapped : unmappedAddr a ≠ true := mt (unmappedAddr_iff a).1 (by omega)
    exact ⟨busRead_mapped mapped, busWrite_readOnly h v⟩
  · have mapped : unmappedAddr a ≠ true := mt (unmappedAddr_iff a).1 (by omega)
    exact ⟨busRead_mapped mapped, busWrite_mapped mapped (by omega) v⟩

/-! ## The ports of the display registers (R56, R57, R328) -/

theorem ppuOwned_iff (a : Word) : ppuOwned a = true ↔ a ∈ [0xFF40#16, 0xFF42#16, 0xFF44#16, 0xFF47#16] := by
  simp [ppuOwned, or_assoc]

/-- The addresses the PPU owns are ports. -/
theorem regionOf_ppuOwned {a : Word} (h : ppuOwned a = true) (b : Bool) : regionOf b a = .io := by
  rw [ppuOwned_iff] at h
  simp only [List.mem_cons, List.not_mem_nil, or_false] at h
  obtain rfl | rfl | rfl | rfl := h <;> simp [regionOf]

/-- The bus reads an address the PPU owns through the register interface. -/
theorem busRead_ppuOwned {s : State} {a : Word} (h : ppuOwned a = true) : s.busRead a = s.ppu.readRegister a := by
  simp [State.busRead, regionOf_ppuOwned h, State.ioRead, h]

/-- The bus writes an address the PPU owns through the register interface. -/
theorem busWrite_ppuOwned {s : State} {a : Word} {v : Byte} {p : Ppu} (h : ppuOwned a = true)
    (hp : s.ppu.writeRegister a v = .ok p) : s.busWrite a v = .ok { s with ppu := p } := by
  simp [State.busWrite, regionOf_ppuOwned h, State.ioWrite, h, hp]

theorem readRegister_unsupported {p : Ppu} {a : Word} (h : a ∉ [0xFF40#16, 0xFF42#16, 0xFF44#16, 0xFF47#16]) :
    p.readRegister a = .error (.unsupportedRegister a) := by
  simp only [List.mem_cons, List.not_mem_nil, or_false, not_or] at h
  simp [Ppu.readRegister, h]

theorem writeRegister_unsupported {p : Ppu} {a : Word} (h : a ∉ [0xFF40#16, 0xFF42#16, 0xFF44#16, 0xFF47#16])
    (v : Byte) : p.writeRegister a v = .error (.unsupportedRegister a) := by
  simp only [List.mem_cons, List.not_mem_nil, or_false, not_or] at h
  simp [Ppu.writeRegister, h]

/-- Settles O17: at its four addresses the bus is the register interface. -/
theorem displayRegisterPorts : Obligations.DisplayRegisterPorts := fun _ v =>
  ⟨⟨busRead_ppuOwned rfl, busRead_ppuOwned rfl, busRead_ppuOwned rfl, busRead_ppuOwned rfl⟩,
    ⟨busWrite_ppuOwned rfl rfl, busWrite_ppuOwned rfl rfl, busWrite_ppuOwned rfl rfl, busWrite_ppuOwned rfl rfl⟩,
    fun _ h => ⟨readRegister_unsupported h, writeRegister_unsupported h v⟩⟩

/-! ## Memory consistency (R34, R40, R74) -/

section storedRows

variable {a : Word} (ha : (0xC000 ≤ a.toNat ∧ a.toNat ≤ 0xDFFF) ∨ (0xFF00 ≤ a.toNat ∧ a.toNat ≤ 0xFFFE))

include ha

/-- The rows of WRAM, the ports and HRAM. -/
theorem regionOf_storedRows (b : Bool) : regionOf b a = .wram ∨ regionOf b a = .io ∨ regionOf b a = .hram := by
  have bounds := regionOf_bounds b a
  cases hr : regionOf b a <;> rw [hr] at bounds <;> simp at bounds ⊢ <;> omega

/-- A read of WRAM, HRAM or a plain port gives the stored byte. -/
theorem busRead_stored {s : State} (hp : ppuOwned a = false) : s.busRead a = .ok (s.memByte a) := by
  obtain hr | hr | hr := regionOf_storedRows ha s.bootLatch <;> simp [State.busRead, hr, State.ioRead, hp]

/-- A write of WRAM, HRAM or a plain port stores its byte. -/
theorem busWrite_stored {s t : State} {v : Byte} (hp : ppuOwned a = false) (h : s.busWrite a v = .ok t) :
    t.mem = Memory.write s.mem a.toNat v := by
  obtain hr | hr | hr := regionOf_storedRows ha s.bootLatch <;>
    simp only [State.busWrite, hr, State.ioWrite, hp, Bool.false_eq_true, if_false] at h
  case inr.inl => split at h <;> cases h <;> rfl
  all_goals cases h; rfl

end storedRows

/-- The stored byte of every other address is the same after a write. -/
theorem busWrite_memByte_other {s t : State} {a b : Word} {v : Byte} (h : s.busWrite a v = .ok t) (hne : b ≠ a) :
    t.memByte b = s.memByte b :=
  (Wrote.write h (.stop [] t)).storeFrame.mem b (by simpa using hne)

/-- The display register of every other address is the same after a write. -/
theorem Written.readRegister_other {s t : State} {a b : Word} {v : Byte} (w : Written s a v t) (hne : b ≠ a) :
    t.ppu.readRegister b = s.ppu.readRegister b := by
  rw [w.ppu]
  simp only [Ppu.readRegister]
  split_ifs <;> simp_all

/-- Settles O20: an address reads as its stored byte or as its display register. -/
theorem readAfterWrite : Obligations.ReadAfterWrite := by
  intro s t a v hwf h
  refine ⟨fun ha hport => ?_, fun b hne hb => ?_, fun b hne => busWrite_memByte_other h hne⟩
  · have plain : ppuOwned a = false := by rwa [← Bool.not_eq_true, ppuOwned_iff]
    rw [busRead_stored ha plain, State.memByte, busWrite_stored ha plain h]
    exact congrArg Except.ok (Memory.read_write_same hwf _ v)
  · cases hp : ppuOwned b with
    | false => rw [busRead_stored hb hp, busRead_stored hb hp, busWrite_memByte_other h hne]
    | true => rw [busRead_ppuOwned hp, busRead_ppuOwned hp, (busWrite_ok h).readRegister_other hne]

/-! ## The canonical form (R74) -/

namespace Memory

theorem wfFrom_cons {lo k : Nat} {v : Byte} {m : Memory} :
    wfFrom lo ((k, v) :: m) = true ↔ lo ≤ k ∧ v ≠ unlistedByte k ∧ wfFrom (k + 1) m = true := by
  simp [wfFrom, and_assoc]

theorem read_cons_self (k : Nat) (v : Byte) (m : Memory) : read ((k, v) :: m) k = v := by simp [read]

theorem read_cons_of_ne {a k : Nat} (h : a ≠ k) (v : Byte) (m : Memory) : read ((k, v) :: m) a = read m a := by
  simp [read, h]

/-- A memory that lists something differs from one that lists only later addresses: at its first address. -/
theorem read_head_ne {lo k : Nat} {v : Byte} {m m' : Memory} (h : wfFrom lo ((k, v) :: m) = true)
    (h' : wfFrom (k + 1) m' = true) : read ((k, v) :: m) k ≠ read m' k := by
  rw [read_cons_self, read_of_wfFrom h' k.lt_succ_self]
  exact (wfFrom_cons.1 h).2.1

/-- Equal reads of two memories with the same first address are equal reads of the rests. -/
theorem read_tail_eq {k : Nat} {v v' : Byte} {m m' : Memory} (h : wfFrom (k + 1) m = true)
    (h' : wfFrom (k + 1) m' = true) (hr : ∀ a, read ((k, v) :: m) a = read ((k, v') :: m') a) (a : Nat) :
    read m a = read m' a := by
  by_cases ha : a = k
  · rw [read_of_wfFrom h (by omega), read_of_wfFrom h' (by omega)]
  · simpa only [read_cons_of_ne ha] using hr a

/-- From any address on, the bytes determine the canonical memory. -/
theorem wfFrom_ext {lo : Nat} {m m' : Memory} (h : wfFrom lo m = true) (h' : wfFrom lo m' = true)
    (hr : ∀ a, read m a = read m' a) : m = m' := by
  induction m generalizing lo m' with
  | nil =>
    cases m' with
    | nil => rfl
    | cons c' rest' => exact absurd (hr c'.1).symm (read_head_ne h' rfl)
  | cons c rest ih =>
    obtain ⟨k, v⟩ := c
    cases m' with
    | nil => exact absurd (hr k) (read_head_ne h rfl)
    | cons c' rest' =>
      obtain ⟨k', v'⟩ := c'
      obtain ⟨-, hv, hrest⟩ := wfFrom_cons.1 h
      obtain ⟨-, hv', hrest'⟩ := wfFrom_cons.1 h'
      obtain hlt | rfl | hgt := Nat.lt_trichotomy k k'
      · exact absurd (hr k) (read_head_ne h (wfFrom_cons.2 ⟨hlt, hv', hrest'⟩))
      · have hval : v = v' := by simpa only [read_cons_self] using hr k
        rw [hval, ih hrest hrest' (read_tail_eq hrest hrest' hr)]
      · exact absurd (hr k').symm (read_head_ne h' (wfFrom_cons.2 ⟨hgt, hv, hrest⟩))

end Memory

/-- Settles O21: the canonical form from address 0 on. -/
theorem memoryExtensionality : Obligations.MemoryExtensionality := fun _ _ => Memory.wfFrom_ext

end Sys2Proof.Machine
end

section
/-! PROOFS. The statements of spec/30_encoding.md: decoding and encoding are inverse, the first byte gives the length,
the families are encoded by their fields, and the undefined bytes raise DecodeError. -/

namespace Sys2Proof

/-! ## Decoding and encoding (R90 to R103) -/

/-- The bytes `word` are those of one instruction, `i`: the prefix and a byte of the secondary table, or a byte of the
base table with as many operand bytes as its length asks for (R93, R94). -/
inductive ReadsAs : (word : List Byte) → (i : Instr) → Prop where
  | prefixed (op2 : Byte) : ReadsAs [0xCB#8, op2] (decodeCb op2)
  | one {op : Byte} (notPrefix : op ≠ 0xCB#8) (length : instrLength op = 1) : ReadsAs [op] (decodeBase op 0 0)
  | two {op : Byte} (n : Byte) (notPrefix : op ≠ 0xCB#8) (length : instrLength op = 2) :
      ReadsAs [op, n] (decodeBase op n 0)
  | three {op : Byte} (n hi : Byte) (notPrefix : op ≠ 0xCB#8) (length : instrLength op = 3) :
      ReadsAs [op, n, hi] (decodeBase op n hi)

/-- The decoder takes the bytes of one instruction and leaves the others. -/
theorem ReadsAs.decode_append {word : List Byte} {i : Instr} (h : ReadsAs word i) (rest : List Byte) :
    decode (word ++ rest) = .ok (i, rest) := by
  cases h with
  | prefixed op2 => rfl
  | one notPrefix length => simp [decode, prefixByte, notPrefix, length]
  | two n notPrefix length => simp [decode, prefixByte, notPrefix, length]
  | three n hi notPrefix length => simp [decode, prefixByte, notPrefix, length]

/-- What the decoder takes are the bytes of one instruction. -/
theorem readsAs_of_decode {bytes rest : List Byte} {i : Instr} (h : decode bytes = .ok (i, rest)) :
    ∃ word, ReadsAs word i ∧ word ++ rest = bytes := by
  obtain _ | ⟨op, tail⟩ := bytes
  · cases h
  obtain rfl | notPrefix := eq_or_ne op 0xCB#8
  · obtain _ | ⟨op2, tail⟩ := tail <;> cases h
    exact ⟨_, .prefixed op2, rfl⟩
  obtain length | length | length := instrLength_cases op <;>
    simp only [decode, prefixByte, notPrefix, if_false, length] at h
  · cases h
    exact ⟨_, .one notPrefix length, rfl⟩
  · obtain _ | ⟨n, tail⟩ := tail <;> cases h
    exact ⟨_, .two n notPrefix length, rfl⟩
  · obtain _ | ⟨n, _ | ⟨hi, tail⟩⟩ := tail <;> cases h
    exact ⟨_, .three n hi notPrefix length, rfl⟩

/-- The bytes of one instruction are the encoding of it, and it is well formed. -/
theorem ReadsAs.encode_eq {word : List Byte} {i : Instr} (h : ReadsAs word i) :
    i.wellFormed = true ∧ encode i = word := by
  cases h with
  | prefixed op2 => exact encode_decodeCb op2
  | one notPrefix length => simpa [length] using encode_decodeBase _ notPrefix 0 0
  | two n notPrefix length => simpa [length] using encode_decodeBase _ notPrefix n 0
  | three n hi notPrefix length => simpa [length] using encode_decodeBase _ notPrefix n hi

/-- The encoding of a well-formed instruction is the bytes of one instruction, which is it. -/
theorem readsAs_encode {i : Instr} (h : i.wellFormed = true) : ReadsAs (encode i) i := by
  obtain ⟨op, operands, henc, ⟨rfl, op2, rfl, -, hdec⟩ | ⟨notPrefix, -, hcount, hdec⟩⟩ := encode_cases i h <;>
    rw [henc, ← hdec]
  · exact .prefixed op2
  · obtain length | length | length := instrLength_cases op <;> rw [length] at hcount
    · obtain rfl := List.length_eq_zero_iff.1 hcount
      exact .one notPrefix length
    · obtain ⟨n, rfl⟩ := List.length_eq_one_iff.1 hcount
      exact .two n notPrefix length
    · obtain ⟨n, hi, rfl⟩ := List.length_eq_two.1 hcount
      exact .three n hi notPrefix length

/-- Settles O1: the encoding is the bytes of one instruction, and the decoder takes just those. -/
theorem decodeOfEncoded : Obligations.DecodeOfEncoded := fun _ rest h => (readsAs_encode h).decode_append rest

/-- Settles O2: the decoder takes the bytes of one instruction, and they are its encoding. -/
theorem encodeOfDecoded : Obligations.EncodeOfDecoded := by
  intro bytes rest i h
  obtain ⟨word, reads, rfl⟩ := readsAs_of_decode h
  obtain ⟨hwf, rfl⟩ := reads.encode_eq
  exact ⟨hwf, rfl⟩

/-- Settles O3: the decoder run on each example, and the undefined byte's meaning. -/
theorem decodingExamples : Obligations.DecodingExamples :=
  ⟨rfl, rfl, rfl, rfl, rfl, rfl, rfl, fun s => Machine.exec_undefined .uDD s⟩

/-! ## Lengths (R94) -/

/-- Every row of the opcode table is as long as its first byte says, whatever its operands. -/
theorem encode_eq_cons (i : Instr) : ∃ op rest, encode i = op :: rest ∧ (encode i).length = instrLength op := by
  cases i <;> exact ⟨_, _, rfl, rfl⟩

/-- Membership in a list of bytes, as the model tests it on numbers. -/
theorem mem_iff_contains_toNat (op : Byte) (ops : List Byte) :
    op ∈ ops ↔ (ops.map BitVec.toNat).contains op.toNat = true := by
  simp [BitVec.toNat_inj]

/-- Settles O4: the length is the one of the first byte, which the two lists of R94 give. -/
theorem lengthByFirstByte : Obligations.LengthByFirstByte := by
  intro i
  obtain ⟨op, rest, henc, hlen⟩ := encode_eq_cons i
  refine ⟨op, rest, henc, hlen.trans ?_⟩
  simp only [mem_iff_contains_toNat]
  rfl

/-! ## Operand fields (R95 to R103) -/

theorem encode_ldReg (r r' : Reg8) : encode (Instr.ldReg r r') = [opByte 1 r.code r'.code] := by
  cases r <;> cases r' <;> rfl

theorem encode_ldRegMem (r : Reg8) : encode (Instr.ldRegMem r) = [opByte 1 r.code 6] := by cases r <;> rfl

theorem encode_ldMemReg (r : Reg8) : encode (Instr.ldMemReg r) = [opByte 1 6 r.code] := by cases r <;> rfl

theorem encode_ldRegImm (r : Reg8) (n : Byte) : encode (Instr.ldRegImm r n) = [opByte 0 r.code 6, n] := by
  cases r <;> rfl

theorem encode_ldPairImm (rr : Reg16) (nn : Word) :
    encode (Instr.ldPairImm rr nn) = [opByte 0 (2 * rr.code) 1, loByte nn, hiByte nn] := by
  cases rr <;> rfl

theorem encode_push (q : StackReg) : encode (Instr.push q) = [opByte 3 (2 * q.code) 5] := by cases q <;> rfl

theorem encode_pop (q : StackReg) : encode (Instr.pop q) = [opByte 3 (2 * q.code) 1] := by cases q <;> rfl

theorem encode_alu (f : AluOp) (x : Src8) : encode (Instr.alu f x) = [opByte 2 f.code x.code] := by
  obtain (_ | _ | _ | _ | _ | _ | _) | _ := x <;> cases f <;> rfl

theorem encode_aluImm (f : AluOp) (n : Byte) : encode (Instr.aluImm f n) = [opByte 3 f.code 6, n] := by cases f <;> rfl

theorem encode_inc8 (x : Src8) : encode (Instr.inc8 x) = [opByte 0 x.code 4] := by
  obtain (_ | _ | _ | _ | _ | _ | _) | _ := x <;> rfl

theorem encode_dec8 (x : Src8) : encode (Instr.dec8 x) = [opByte 0 x.code 5] := by
  obtain (_ | _ | _ | _ | _ | _ | _) | _ := x <;> rfl

theorem encode_inc16 (rr : Reg16) : encode (Instr.inc16 rr) = [opByte 0 (2 * rr.code) 3] := by cases rr <;> rfl

theorem encode_dec16 (rr : Reg16) : encode (Instr.dec16 rr) = [opByte 0 (2 * rr.code + 1) 3] := by cases rr <;> rfl

theorem encode_addHl (rr : Reg16) : encode (Instr.addHl rr) = [opByte 0 (2 * rr.code + 1) 1] := by cases rr <;> rfl

theorem encode_rot (f : RotOp) (x : Src8) : encode (Instr.rot f x) = [0xCB#8, opByte 0 f.code x.code] := by
  obtain (_ | _ | _ | _ | _ | _ | _) | _ := x <;> cases f <;> rfl

theorem encode_bit (b : Fin 8) (x : Src8) : encode (Instr.bit b x) = [0xCB#8, opByte 1 b.val x.code] := by
  obtain (_ | _ | _ | _ | _ | _ | _) | _ := x <;> fin_cases b <;> rfl

theorem encode_res (b : Fin 8) (x : Src8) : encode (Instr.res b x) = [0xCB#8, opByte 2 b.val x.code] := by
  obtain (_ | _ | _ | _ | _ | _ | _) | _ := x <;> fin_cases b <;> rfl

theorem encode_set (b : Fin 8) (x : Src8) : encode (Instr.set b x) = [0xCB#8, opByte 3 b.val x.code] := by
  obtain (_ | _ | _ | _ | _ | _ | _) | _ := x <;> fin_cases b <;> rfl

theorem encode_jrCond (cc : Cond) (e : Int) : encode (Instr.jrCond cc e) = [opByte 0 (4 + cc.code) 0, dispByte e] := by
  cases cc <;> rfl

theorem encode_jpCond (cc : Cond) (nn : Word) :
    encode (Instr.jpCond cc nn) = [opByte 3 cc.code 2, loByte nn, hiByte nn] := by
  cases cc <;> rfl

theorem encode_callCond (cc : Cond) (nn : Word) :
    encode (Instr.callCond cc nn) = [opByte 3 cc.code 4, loByte nn, hiByte nn] := by
  cases cc <;> rfl

theorem encode_retCond (cc : Cond) : encode (Instr.retCond cc) = [opByte 3 cc.code 0] := by cases cc <;> rfl

theorem encode_rst (t : Fin 8) : encode (Instr.rst t) = [opByte 3 t.val 7] := by fin_cases t <;> rfl

/-- Settles O5, family by family. -/
theorem encodingByFields : Obligations.EncodingByFields :=
  ⟨encode_ldReg, encode_ldRegMem, encode_ldMemReg, encode_ldRegImm, encode_ldPairImm, encode_push, encode_pop,
    encode_alu, encode_aluImm, encode_inc8, encode_dec8, encode_inc16, encode_dec16, encode_addHl, encode_rot,
    encode_bit, encode_res, encode_set, fun cc n => by rw [encode_jrCond, Machine.dispByte_toInt], encode_jpCond,
    encode_callCond, encode_retCond, encode_rst⟩

/-! ## Undefined bytes (R105, R301) -/

/-- The undefined rows in the order of their bytes (R105). -/
def undefinedRows : List UndefinedByte := [.uD3, .uDB, .uDD, .uE3, .uE4, .uEB, .uEC, .uED, .uF4, .uFC, .uFD]

theorem mem_undefinedRows (u : UndefinedByte) : u ∈ undefinedRows := by cases u <;> decide

theorem encode_undefined (u : UndefinedByte) : encode (Instr.undefined u) = [u.byte] := by cases u <;> rfl

/-- Settles O6: the bytes listed are those of the undefined rows, each row's encoding and meaning by its byte. -/
theorem undefinedByteRaisesDecodeError : Obligations.UndefinedByteRaisesDecodeError := by
  refine ⟨fun b => ?_, fun u s => ⟨encode_undefined u, Machine.exec_undefined u s⟩⟩
  change _ ↔ b ∈ undefinedRows.map UndefinedByte.byte
  simp [mem_undefinedRows]

end Sys2Proof
end

section
/-! PROOFS. The statements of spec/40_load_store.md: loads, stores and the stack. A byte load is a read with a
continuation, a byte store a write with one, and PUSH and `LD (nn),SP` are two writes. -/

namespace Sys2Proof.Machine

/-! ## Loads of registers and of bytes (R121 to R143) -/

/-- Settles O43: each of the four completes without an access. -/
theorem registerLoads : Obligations.RegisterLoads := fun s =>
  ⟨fun r r' => exec_ldReg r r' s, fun r n => exec_ldRegImm r n s, fun rr nn => exec_ldPairImm rr nn s, rfl⟩

/-- Settles O44: each is one read and then the end of the instruction; HL- adds minus one. -/
theorem memoryLoads : Obligations.MemoryLoads := fun s =>
  ⟨fun r => loads_of (exec_ldRegMem r s), loads_of rfl, loads_of rfl, fun _ => loads_of rfl, fun _ => loads_of rfl,
    loads_of rfl, loads_of rfl, by rw [BitVec.sub_eq_add_neg]; exact loads_of rfl⟩

/-! ## Stores of a byte and of a word (R123 to R152) -/

/-- Settles O45: each is the store of a byte, or the store that moves HL; HL- adds minus one. -/
theorem byteStores : Obligations.ByteStores := fun s =>
  ⟨fun r => stores_of_storeByte (exec_ldMemReg r s), fun _ => stores_of_storeByte rfl, stores_of_storeByte rfl,
    stores_of_storeByte rfl, fun _ => stores_of_storeByte rfl, fun _ => stores_of_storeByte rfl,
    stores_of_storeByte rfl, stores_of_storeAccStep rfl,
    by rw [BitVec.sub_eq_add_neg]; exact stores_of_storeAccStep rfl⟩

/-- The end of an instruction of `n` bytes after its stores, in the register file it started with. -/
theorem complete_past {s u : State} (h : u.regs = s.regs) (n c : Nat) :
    complete (u.mapRegs fun g => { g with pc := s.regs.pc + BitVec.ofNat 16 n }) c =
      .next (u.doneWith (s.regs.past n) c) := by
  rw [State.mapRegs, h]; rfl

/-- `LD (nn),SP` stores the low byte of SP and then the high byte (R142). -/
theorem storesTwo_ld_mnn_SP (s : State) (nn : Word) :
    StoresTwo (.ld_mnn_SP nn) s nn (loByte s.regs.sp) (nn + 1#16) (hiByte s.regs.sp) (s.regs.past 3) :=
  storesTwo_of rfl fun _ h => complete_past h 3 _

/-- `PUSH qq` pushes the pair (R152). -/
theorem pushes_push (s : State) (q : StackReg) : Pushes (Instr.push q) s (s.regs.getStack q) (s.regs.past 1) :=
  pushes_of (exec_push q s) fun u h => by simp only [State.setSp, State.mapRegs, h]; rfl

/-- Settles O46: two writes in order, whichever of them fails. -/
theorem wordStoreAndPush : Obligations.WordStoreAndPush := fun s => ⟨storesTwo_ld_mnn_SP s, pushes_push s⟩

/-! ## The stack (R150 to R154) -/

/-- Settles O47: two reads, the pair and SP written after both. -/
theorem popResult : Obligations.PopResult := fun s q => pops_of (exec_pop q s) fun _ => rfl

/-- The bytes of WRAM and HRAM, which keep what is pushed (R52). -/
def StackByte (a : Word) : Prop :=
  (0xC000 ≤ a.toNat ∧ a.toNat ≤ 0xDFFF) ∨ (0xFF80 ≤ a.toNat ∧ a.toNat ≤ 0xFFFE)

namespace StackByte

variable {a : Word} (ha : StackByte a)

include ha

theorem storedRow : (0xC000 ≤ a.toNat ∧ a.toNat ≤ 0xDFFF) ∨ (0xFF00 ≤ a.toNat ∧ a.toNat ≤ 0xFFFE) :=
  ha.imp_right fun ⟨lo, hi⟩ => ⟨by omega, hi⟩

/-- No display register stands in WRAM or HRAM. -/
theorem plain : ppuOwned a = false := by
  rw [← Bool.not_eq_true, ppuOwned_iff]
  simp only [List.mem_cons, List.not_mem_nil, or_false]
  rintro (rfl | rfl | rfl | rfl) <;> simp [StackByte] at ha

/-- A stack byte reads as it is stored. -/
theorem busRead (s : State) : s.busRead a = .ok (s.memByte a) := busRead_stored ha.storedRow ha.plain

/-- A write of a stack byte succeeds and stores it. -/
theorem busWrite (s : State) (v : Byte) : ∃ t, s.busWrite a v = .ok t ∧ t.mem = Memory.write s.mem a.toNat v := by
  have row := ha.storedRow
  have mapped : unmappedAddr a ≠ true := mt (unmappedAddr_iff a).1 (by omega)
  obtain ⟨t, ht⟩ := busWrite_mapped (s := s) mapped (by omega) v
  exact ⟨t, ht, busWrite_stored row ha.plain ht⟩

end StackByte

/-- After a PUSH in WRAM or HRAM the two bytes of the pair stand at the new SP and above it (R150). -/
theorem push_leaves_bytes {s : State} (q : StackReg) (hwf : Memory.wf s.mem = true)
    (high : StackByte (s.regs.sp - 1#16)) (low : StackByte (s.regs.sp - 2#16)) :
    ∃ t, exec (Instr.push q) s = .next t ∧ t.regs.sp = s.regs.sp - 2#16 ∧
      t.busRead (s.regs.sp - 2#16) = .ok (loByte (s.regs.getStack q)) ∧
      t.busRead (s.regs.sp - 1#16) = .ok (hiByte (s.regs.getStack q)) := by
  obtain ⟨t, writeHigh, memHigh⟩ := high.busWrite s (hiByte (s.regs.getStack q))
  obtain ⟨u, writeLow, memLow⟩ := low.busWrite t (loByte (s.regs.getStack q))
  have hwf' : Memory.wf t.mem = true := memHigh ▸ Memory.write_wf hwf _ _
  have distinct : (s.regs.sp - 1#16).toNat ≠ (s.regs.sp - 2#16).toNat := by bv_omega
  refine ⟨_, (pushes_push s q).1 t u writeHigh writeLow, rfl, ?_, ?_⟩
  · rw [low.busRead]
    show Except.ok (Memory.read u.mem _) = _
    rw [memLow, Memory.read_write_same hwf']
  · rw [high.busRead]
    show Except.ok (Memory.read u.mem _) = _
    rw [memLow, Memory.read_write_other _ distinct, memHigh, Memory.read_write_same hwf]

/-- A stack pair reads as it was written, AF without bits 3 to 0 (R23, R24). -/
theorem RegFile.getStack_setStack_eq (g : RegFile) (q : StackReg) (v : Word) :
    (g.setStack q v).getStack q = if q = .af then v &&& 0xFFF0#16 else v := by
  split_ifs with hq
  · subst hq; exact g.af_setStack_af v
  · exact g.getStack_setStack q v hq

/-- Settles O22: the POP reads the two bytes that the PUSH left. -/
theorem pushPopRoundTrip : Obligations.PushPopRoundTrip := by
  intro s q q' hwf high low
  obtain ⟨t, push, sp, readLow, readHigh⟩ := push_leaves_bytes q hwf high low
  have above : t.regs.sp + 1#16 = s.regs.sp - 1#16 := by rw [sp]; bv_omega
  have pop := (popResult t q').1 _ _ (sp ▸ readLow) (above ▸ readHigh)
  refine ⟨t, _, push, pop, ?_, ?_⟩
  · simp [sp]
  · show (RegFile.setStack _ q' (joinBytes _ _)).getStack q' = _
    rw [RegFile.getStack_setStack_eq, joinBytes_hi_lo]

/-! ## The frame of the memory (R70, R144, R150, R334) -/

/-- From `s` to `t` the stored bytes change at most at the addresses `as`, the registers of the display and the boot
latch at most where their port is among them, and the images not at all. -/
structure MemFrame (as : List Word) (s t : State) : Prop where
  mem : ∀ a : Word, a ∉ as → Memory.read t.mem a.toNat = Memory.read s.mem a.toNat
  lcdc : 0xFF40#16 ∉ as → t.ppu.lcdc = s.ppu.lcdc
  scy : 0xFF42#16 ∉ as → t.ppu.scy = s.ppu.scy
  bgp : 0xFF47#16 ∉ as → t.ppu.bgp = s.ppu.bgp
  latch : 0xFF50#16 ∉ as → t.bootLatch = s.bootLatch
  cfg : t.cfg = s.cfg

section frames

variable {as : List Word} {s t u : State}

theorem Wrote.memFrame (w : Wrote as s u) : MemFrame as s u :=
  have frame := w.storeFrame
  have ⟨_, _, _, _, _, cfg⟩ := w.frame
  ⟨frame.mem, frame.lcdc, frame.scy, frame.bgp, frame.latch, cfg⟩

/-- The frame speaks of four fields of the state alone. -/
theorem MemFrame.of_eq (h : MemFrame as s u) (hm : t.mem = u.mem) (hp : t.ppu = u.ppu)
    (hl : t.bootLatch = u.bootLatch) (hc : t.cfg = u.cfg) : MemFrame as s t := by
  obtain ⟨mem, lcdc, scy, bgp, latch, cfg⟩ := h
  rw [← hp] at lcdc scy bgp
  exact ⟨hm ▸ mem, lcdc, scy, bgp, hl ▸ latch, hc.trans cfg⟩

/-- The advance of the PPU keeps its three registers (R334). -/
theorem MemFrame.retire (h : MemFrame as s u) (c : Nat) : MemFrame as s (u.retire c) := by
  obtain ⟨lcdc, scy, bgp⟩ := retire_ppu_registers u c
  exact ⟨h.mem, fun ha => lcdc.trans (h.lcdc ha), fun ha => scy.trans (h.scy ha), fun ha => bgp.trans (h.bgp ha),
    h.latch, h.cfg⟩

end frames

/-- On each of its three ends an instruction has changed the memory by its stores alone. -/
theorem Effect.memFrame {i : Instr} {s t : State} (e : Effect i s t) : MemFrame (i.storeAddrs s) s t := by
  cases e with
  | fault u f w h => exact w.memFrame.of_eq rfl rfl rfl rfl
  | done u g b p w hg hb hp hh =>
    have update : MemFrame (i.storeAddrs s) s { u with regs := g, ime := b, imePend := p } :=
      w.memFrame.of_eq rfl rfl rfl rfl
    exact update.retire _
  | halt g hg hh =>
    have update : MemFrame (i.storeAddrs s) s { s with regs := g } :=
      (Wrote.stop _ s).memFrame.of_eq rfl rfl rfl rfl
    exact (update.retire _).of_eq rfl rfl rfl rfl

/-- Settles O25, by the three ends of an instruction. -/
theorem memoryFrame : Obligations.MemoryFrame := fun _ _ _ h =>
  have frame := (effect_of h).memFrame
  ⟨frame.mem, frame.lcdc, frame.scy, frame.bgp, frame.latch, frame.cfg⟩

end Sys2Proof.Machine
end

section
/-! PROOFS. The statements of spec/41_alu8.md: the 8-bit ALU, INC and DEC, DAA and the flag instructions. The operand
forms are those of `aluForms_of` and `modifies_of`, so that each statement comes down to what the operation gives. -/

namespace Sys2Proof.Machine

/-! ## Addition and subtraction (R161, R162) -/

@[simp] theorem bitByte_false : bitByte false = 0#8 := rfl

/-- `alu_add` as a sum of bytes, with the carries out of bits 3 and 7 (R161). -/
theorem aluAdd_eq (x y : Byte) (c : Bool) : aluAdd x y c =
    ⟨x + y + bitByte c, x + y + bitByte c == 0#8, false,
      decide (x.toNat % 16 + y.toNat % 16 + b2n c > 15), decide (x.toNat + y.toNat + b2n c > 255)⟩ := by
  rw [aluAdd, ofNat_add_carry]; rfl

/-- `alu_sub` as a difference of bytes, with the borrows into bits 3 and 7 (R162). -/
theorem aluSub_eq (x y : Byte) (c : Bool) : aluSub x y c =
    ⟨x - y - bitByte c, x - y - bitByte c == 0#8, true,
      decide (x.toNat % 16 < y.toNat % 16 + b2n c), decide (x.toNat < y.toNat + b2n c)⟩ := by
  rw [aluSub, ofInt_sub_borrow]; rfl

/-- `alu_add` without a carry in (R166). -/
theorem aluAdd_false (x y : Byte) : aluAdd x y false =
    ⟨x + y, x + y == 0#8, false, decide (x.toNat % 16 + y.toNat % 16 > 15), decide (x.toNat + y.toNat > 255)⟩ := by
  rw [aluAdd_eq, bitByte_false, BitVec.add_zero]; rfl

/-- `alu_sub` without a borrow in (R172, R187). -/
theorem aluSub_false (x y : Byte) : aluSub x y false =
    ⟨x - y, x - y == 0#8, true, decide (x.toNat % 16 < y.toNat % 16), decide (x.toNat < y.toNat)⟩ := by
  rw [aluSub_eq, bitByte_false, BitVec.sub_zero]; rfl

/-- A difference is zero exactly when its terms are equal: the Z of CP (R187). -/
theorem sub_beq_zero (x y : Byte) : (x - y == 0#8) = decide (x = y) := by
  rw [beq_eq_decide, decide_eq_decide]; exact sub_eq_zero

/-- An ALU instruction other than CP leaves the output of its function in A and the flags (R160). -/
theorem RegFile.aluResult_of_fn {g : RegFile} {y : Byte} {o : AluOut} (op : AluOp)
    (hop : op ≠ .cp) (h : aluFn op g.a y g.cf = o) :
    g.aluResult op y = { g with a := o.res, zf := o.z, nf := o.n, hf := o.h, cf := o.c } := by
  subst h
  cases op with
  | cp => exact absurd rfl hop
  | _ => rfl

/-- CP leaves the flags of a subtraction and keeps A (R187). -/
theorem RegFile.aluResult_cp_of_fn {g : RegFile} {y : Byte} {o : AluOut} (h : aluSub g.a y false = o) :
    g.aluResult .cp y = { g with zf := o.z, nf := o.n, hf := o.h, cf := o.c } := by
  subst h; rfl

/-- Settles O48, by the sum and the carries of `alu_add`. -/
theorem addResult : Obligations.AddResult := fun _ =>
  ⟨aluForms_of fun g v => RegFile.aluResult_of_fn .add (by decide) (aluAdd_false g.a v),
    aluForms_of fun g v => RegFile.aluResult_of_fn .adc (by decide) (aluAdd_eq g.a v g.cf)⟩

/-- Settles O49, by the difference and the borrows of `alu_sub`. -/
theorem subtractResult : Obligations.SubtractResult := fun _ =>
  ⟨aluForms_of fun g v => RegFile.aluResult_of_fn .sub (by decide) (aluSub_false g.a v),
    aluForms_of fun g v => RegFile.aluResult_of_fn .sbc (by decide) (aluSub_eq g.a v g.cf),
    aluForms_of fun g v => by rw [RegFile.aluResult_cp_of_fn (aluSub_false g.a v), sub_beq_zero]⟩

/-! ## Logic (R163 to R165) -/

/-- Settles O50: the output of each of the three functions stands in its definition. -/
theorem logicResult : Obligations.LogicResult := fun _ =>
  ⟨aluForms_of fun _ _ => RegFile.aluResult_of_fn .and (by decide) rfl,
    aluForms_of fun _ _ => RegFile.aluResult_of_fn .xor (by decide) rfl,
    aluForms_of fun _ _ => RegFile.aluResult_of_fn .or (by decide) rfl⟩

/-! ## INC and DEC (R190 to R195) -/

/-- Settles O51: both read the operand, write it back stepped and set the flags but Cf. -/
theorem incDecResult : Obligations.IncDecResult := fun s x =>
  ⟨modifies_of (exec_inc8 x s), modifies_of (exec_dec8 x s)⟩

/-! ## DAA, CPL, SCF and CCF (R196 to R199) -/

/-- The correction of the low digit (R196). -/
def daaLow (a : Byte) (n h : Bool) : Byte := if h || (!n && decide (nibble a > 9)) then 0x06#8 else 0#8

/-- The correction of the high digit (R196). -/
def daaHigh (a : Byte) (n c : Bool) : Byte := if daaCarry a n c then 0x60#8 else 0#8

/-- The high correction is a multiple of 16, so it keeps the low digit. -/
theorem nibble_add_daaHigh (a : Byte) (n c : Bool) : nibble (a + daaHigh a n c) = nibble a := by
  rw [daaHigh]
  split
  · simp only [nibble, BitVec.toNat_add, BitVec.toNat_ofNat]; omega
  · rw [BitVec.add_zero]

/-- After an addition: the high correction leaves the low digit alone, so that both can be read off A (R196). -/
theorem daaValue_add (a : Byte) (h c : Bool) :
    daaValue a false h c = a + daaLow a false h + daaHigh a false c := by
  calc daaValue a false h c
    _ = a + daaHigh a false c + daaLow (a + daaHigh a false c) false h := by
      simp only [daaHigh, daaLow, add_ite, BitVec.add_zero]; rfl
    _ = a + daaHigh a false c + daaLow a false h := by rw [daaLow, nibble_add_daaHigh]; rfl
    _ = a + daaLow a false h + daaHigh a false c := add_right_comm _ _ _

/-- After a subtraction the flags alone choose the corrections (R196). -/
theorem daaValue_sub (a : Byte) (h c : Bool) :
    daaValue a true h c = a - daaLow a true h - daaHigh a true c := by
  calc daaValue a true h c
    _ = a - daaHigh a true c - daaLow a true h := by
      simp [daaValue, daaHigh, daaLow, daaCarry, sub_ite]
    _ = a - daaLow a true h - daaHigh a true c := sub_right_comm _ _ _

/-- The value of DAA is A with both corrections, added or subtracted by N (R196). -/
theorem daaValue_eq (a : Byte) (n h c : Bool) : daaValue a n h c =
    if n then a - daaLow a n h - daaHigh a n c else a + daaLow a n h + daaHigh a n c := by
  cases n
  · exact daaValue_add a h c
  · exact daaValue_sub a h c

/-- DAA completes with `daaValue` in A, N as it was, and the carry of the high correction (R196). -/
theorem completes_daa (s : State) (v : Byte) (hv : daaValue s.regs.a s.regs.nf s.regs.hf s.regs.cf = v) :
    Completes .daa s { s.regs.past 1 with
      a := v, zf := v == 0#8, hf := false, cf := daaCarry s.regs.a s.regs.nf s.regs.cf } := by
  rw [← hv]; rfl

/-- CPL completes with the difference from 0xFF, the complement, in A (R197). -/
theorem completes_cpl (s : State) :
    Completes .cpl s { s.regs.past 1 with a := 0xFF#8 - s.regs.a, nf := true, hf := true } := by
  rw [show 0xFF#8 - s.regs.a = ~~~s.regs.a from BitVec.allOnes_sub_eq_not _]; rfl

/-- Settles O52: DAA by its two corrections, CPL by the complement; SCF and CCF write constants or the inverse of Cf. -/
theorem decimalAndFlagResult : Obligations.DecimalAndFlagResult := fun s =>
  ⟨completes_daa s _ (daaValue_eq _ _ _ _), completes_cpl s, rfl, rfl⟩

end Sys2Proof.Machine
end

section
/-! PROOFS. The statements of spec/42_alu16.md: INC and DEC of a pair, `ADD HL,rr`, `ADD SP,e` and `LD HL,SP+e`. None
of them accesses the bus, so each completes with the register file its operation gives. -/

namespace Sys2Proof.Machine

/-! ## INC rr and DEC rr (R210, R211) -/

/-- DEC adds minus one to the pair, which subtracts one (R211). -/
theorem completes_dec16 (s : State) (rr : Reg16) :
    Completes (Instr.dec16 rr) s ((s.regs.past 1).set16 rr (s.regs.get16 rr - 1#16)) := by
  rw [BitVec.sub_eq_add_neg]; exact exec_dec16 rr s

/-! ## `ADD HL,rr` (R212) -/

/-- `ADD HL,rr` leaves the sum of words in HL, Z as it was, and the carries out of bits 11 and 15 (R212). -/
theorem RegFile.addHl_eq (g : RegFile) (y : Word) : g.addHl y = { g.set16 .hl (g.hl + y) with
    nf := false
    hf := decide (g.hl.toNat % 0x1000 + y.toNat % 0x1000 > 0xFFF)
    cf := decide (g.hl.toNat + y.toNat > 0xFFFF) } := by
  simp only [RegFile.addHl, BitVec.ofNat_add, BitVec.ofNat_toNat, BitVec.setWidth_eq]; rfl

/-- `ADD HL,rr` completes with `addHl` of the pair as it was at the start, PC past the one byte (R212). -/
theorem completes_addHl {s : State} {rr : Reg16} {g : RegFile} (h : (s.regs.past 1).addHl (s.regs.get16 rr) = g) :
    Completes (Instr.addHl rr) s g := by
  subst h; exact exec_addHl rr s

/-! ## `ADD SP,e` and `LD HL,SP+e` (R213 to R215) -/

/-- `sp_add` on an operand byte: the sum sign-extends it, the carries out of bits 3 and 7 do not (R213). -/
theorem spAdd_toInt (sp : Word) (n : Byte) : spAdd sp n.toInt =
    ⟨sp + n.signExtend 16, decide (sp.toNat % 16 + n.toNat % 16 > 15), decide (sp.toNat % 256 + n.toNat > 255)⟩ := by
  rw [spAdd, dispByte_toInt, dispWord_toInt]; rfl

/-- `ADD SP,e` leaves the output of `sp_add` in SP, Hf and Cf, and clears Z and N (R214). -/
theorem completes_add_SP_e {s : State} {e : Int} {w : Word} {hc c : Bool} (h : spAdd s.regs.sp e = ⟨w, hc, c⟩) :
    Completes (.add_SP_e e) s { s.regs.past 2 with sp := w, zf := false, nf := false, hf := hc, cf := c } := by
  obtain ⟨rfl, rfl, rfl⟩ := SpOut.mk.inj h; rfl

/-- `LD HL,SP+e` leaves the output of `sp_add` in HL, Hf and Cf, and clears Z and N (R215). -/
theorem completes_ld_HL_SPe {s : State} {e : Int} {w : Word} {hc c : Bool} (h : spAdd s.regs.sp e = ⟨w, hc, c⟩) :
    Completes (.ld_HL_SPe e) s { (s.regs.past 2).set16 .hl w with zf := false, nf := false, hf := hc, cf := c } := by
  obtain ⟨rfl, rfl, rfl⟩ := SpOut.mk.inj h; rfl

/-- Settles O53: INC and DEC by their delta, `ADD HL,rr` by the sum of words, the two SP forms by `sp_add`. -/
theorem wordArithmeticResult : Obligations.WordArithmeticResult := fun s =>
  ⟨fun rr => exec_inc16 rr s, completes_dec16 s, fun _ => completes_addHl (RegFile.addHl_eq _ _),
    fun n => ⟨completes_add_SP_e (spAdd_toInt _ n), completes_ld_HL_SPe (spAdd_toInt _ n)⟩⟩

end Sys2Proof.Machine
end

section
/-! PROOFS. The statements of spec/43_rotate_shift_bit.md: the rotates of A, the CB rotates and shifts, and BIT, RES and
SET. The operand forms are those of `operates_of` and `modifies_of`, so that each statement comes down to what the
operation gives. -/

namespace Sys2Proof.Machine

/-! ## Rotates, shifts and SWAP (R230 to R251) -/

/-- An accumulator rotate leaves the rotation in A and its bit out in Cf; Z by `ACC_ROTATE_Z` (R232 to R235, D35). -/
theorem RegFile.accRotate_eq (g : RegFile) (policy : AccRotateZ) (f : RotOp) : g.accRotate policy f = { g with
    a := (rotated f g.a g.cf).1
    zf := decide (policy = .fromResult ∧ (rotated f g.a g.cf).1 = 0#8)
    nf := false
    hf := false
    cf := (rotated f g.a g.cf).2 } := by
  rw [rotated_eq, Bool.decide_and, ← beq_eq_decide]; rfl

/-- An instruction that means an accumulator rotate completes with it, PC past the one byte (R232 to R235). -/
theorem completes_accRotate {i : Instr} {s : State} {f : RotOp} {g : RegFile} (h : exec i s = accRotate i.opcode f s)
    (hg : (s.regs.past 1).accRotate s.cfg.accRotateZ f = g) : Completes i s g := by
  subst hg; exact h

/-- RLCA, RRCA, RLA and RRA mean the accumulator rotates of their functions (R232 to R235). -/
theorem exec_accRotate {i : Instr} {f : RotOp} (s : State)
    (h : (i, f) ∈ [(Instr.rlca, RotOp.rlc), (Instr.rrca, RotOp.rrc), (Instr.rla, RotOp.rl), (Instr.rra, RotOp.rr)]) :
    exec i s = accRotate i.opcode f s := by
  simp only [List.mem_cons, List.not_mem_nil, or_false, Prod.mk.injEq] at h
  obtain ⟨rfl, rfl⟩ | ⟨rfl, rfl⟩ | ⟨rfl, rfl⟩ | ⟨rfl, rfl⟩ := h <;> rfl

/-- Settles O54: the accumulator rotates by `accRotate_eq`; the CB forms read the operand, write back its rotation and
set the flags by it. -/
theorem rotateResult : Obligations.RotateResult := by
  refine fun s => ⟨fun i f h => completes_accRotate (exec_accRotate s h) (RegFile.accRotate_eq _ _ f), fun f x => ?_⟩
  simp only [rotated_eq]
  exact modifies_of (exec_rot f x s)

/-! ## BIT, RES and SET (R252 to R257) -/

/-- RES masks with the complement of the bit's weight (R254). -/
theorem resBit_eq (b : Fin 8) (v : Byte) : resBit b v = v &&& ~~~BitVec.twoPow 8 b.val := by
  rw [BitVec.twoPow_eq]; rfl

/-- SET joins the bit's weight (R256). -/
theorem setBit_eq (b : Fin 8) (v : Byte) : setBit b v = v ||| BitVec.twoPow 8 b.val := by
  rw [BitVec.twoPow_eq]; rfl

/-- An instruction that means `changeBit` replaces its operand and keeps every flag (R254 to R257). -/
theorem modifies_of_changeBit {i : Instr} {s : State} {x : Src8} {f res : Byte → Byte}
    (h : exec i s = changeBit i.opcode f x s) (hres : ∀ v, f v = res v) : Modifies i s 2 x res fun _ g => g := by
  obtain rfl : f = res := funext hres
  exact modifies_of h

/-- Settles O55: BIT completes from its read; RES and SET write back their operand without and with the bit. -/
theorem bitResult : Obligations.BitResult := fun s b x =>
  ⟨operates_of (exec_bit b x s), modifies_of_changeBit (exec_res b x s) (resBit_eq b),
    modifies_of_changeBit (exec_set b x s) (setBit_eq b)⟩

end Sys2Proof.Machine
end

section
/-! PROOFS. The statements of spec/44_control.md: jumps, calls with RST, and returns. Each form is a lemma about the
operation that its instructions mean: `jumpIf`, `callTo`, `retIf`. -/

namespace Sys2Proof.Machine

variable {i : Instr} {s : State}

/-! ## Jumps (R270 to R275, R281) -/

/-- An instruction that means `jumpIf` from its end address jumps (R270). -/
theorem jumps_of_jumpIf {taken : Bool} {n : Nat} {target : Word}
    (h : exec i s = jumpIf i.opcode taken target s (s.skip n)) : Jumps i s taken n target := by
  rw [Jumps, h]; cases taken <;> rfl

/-- A relative jump reaches the end address plus the sign-extended operand byte (R274, R275). -/
theorem jumps_of_jumpRel {taken : Bool} {n : Byte} (h : exec i s = jumpRel i.opcode taken n.toInt s) :
    Jumps i s taken 2 (s.regs.pc + 2#16 + n.signExtend 16) := by
  rw [← dispWord_toInt]; exact jumps_of_jumpIf h

/-- Settles O56: each means `jumpIf` of its target, the relative ones by `jumpRel`. -/
theorem jumpResult : Obligations.JumpResult := fun s =>
  ⟨⟨rfl, rfl, rfl, rfl⟩, fun _ => jumps_of_jumpIf rfl, fun cc nn => jumps_of_jumpIf (exec_jpCond cc nn s),
    jumps_of_jumpIf rfl, fun _ => jumps_of_jumpRel rfl, fun cc n => jumps_of_jumpRel (exec_jrCond cc n.toInt s)⟩

/-! ## Calls and restarts (R276, R277, R282) -/

/-- An instruction that means `callTo` pushes its end address and jumps (R276, R282). -/
theorem pushes_of_callTo {n : Nat} {target : Word} (h : exec i s = callTo i.opcode n target s) :
    Pushes i s (s.regs.pc + BitVec.ofNat 16 n) { s.regs with pc := target } := by
  unfold callTo at h
  exact pushes_of h fun u hu => by simp only [State.setSp, State.mapRegs, hu]; rfl

/-- A conditional call means `callTo` when its condition holds (R277). -/
theorem exec_callCond_taken {cc : Cond} (nn : Word) (h : s.regs.cond cc = true) :
    exec (Instr.callCond cc nn) s = callTo (Instr.callCond cc nn).opcode 3 nn s := by
  rw [exec_callCond, h]; rfl

/-- A conditional call moves on to its end address when its condition fails (R277). -/
theorem exec_callCond_not_taken {cc : Cond} (nn : Word) (h : s.regs.cond cc = false) :
    exec (Instr.callCond cc nn) s =
      .next (s.doneWith (s.regs.past 3) (s.costNotTaken (Instr.callCond cc nn).opcode)) := by
  rw [exec_callCond, h]; rfl

/-- `RST t` pushes the address after its one byte and jumps to 8 times `t` (R282). -/
theorem pushes_rst (s : State) (t : Fin 8) :
    Pushes (Instr.rst t) s (s.regs.pc + 1#16) { s.regs with pc := BitVec.ofNat 16 (8 * t.val) } := by
  rw [Nat.mul_comm]; exact pushes_of_callTo (exec_rst t s)

/-- Settles O57: each means `callTo`, a conditional call when its condition holds. -/
theorem callResult : Obligations.CallResult := fun s =>
  ⟨fun _ => pushes_of_callTo rfl,
    fun _ nn => ⟨fun h => pushes_of_callTo (exec_callCond_taken nn h), exec_callCond_not_taken nn⟩, pushes_rst s⟩

/-! ## Returns (R278 to R280) -/

/-- An instruction that means a taken `retIf` pops PC (R278, R279). -/
theorem pops_of_retIf (h : exec i s = retIf i.opcode true s) :
    Pops i s fun v => { s with regs := { s.regs with sp := s.regs.sp + 2#16, pc := v } } := by
  rw [retIf, if_pos rfl] at h
  exact pops_of h fun _ => rfl

/-- RETI pops PC and sets `ime` at once (R280). -/
theorem pops_reti (s : State) :
    Pops .reti s fun v => { s with regs := { s.regs with sp := s.regs.sp + 2#16, pc := v }, ime := true } := by
  have h : exec .reti s = retEnable Instr.reti.opcode s := rfl
  rw [retEnable] at h
  exact pops_of h fun _ => rfl

/-- A conditional return means a taken `retIf` when its condition holds (R279). -/
theorem exec_retCond_taken {cc : Cond} (h : s.regs.cond cc = true) :
    exec (Instr.retCond cc) s = retIf (Instr.retCond cc).opcode true s := by
  rw [exec_retCond, h]

/-- A conditional return moves on to its end address when its condition fails (R279). -/
theorem exec_retCond_not_taken {cc : Cond} (h : s.regs.cond cc = false) :
    exec (Instr.retCond cc) s = .next (s.doneWith (s.regs.past 1) (s.costNotTaken (Instr.retCond cc).opcode)) := by
  rw [exec_retCond, h]; rfl

/-- Settles O58: RET and a RET cc that is taken mean `retIf`; RETI pops as they do and sets `ime`. -/
theorem returnResult : Obligations.ReturnResult := fun s =>
  ⟨pops_of_retIf rfl, pops_reti s,
    fun _ => ⟨fun h => pops_of_retIf (exec_retCond_taken h), exec_retCond_not_taken⟩⟩

end Sys2Proof.Machine
end

section
/-! PROOFS. The statements of spec/45_system.md: the rows that `ADMIT_GENERAL = false` removes from the dispatch table,
and NOP, HALT, STOP, DI and EI. -/

namespace Sys2Proof.Machine

/-! ## The general-knowledge rows (R104, R106, R306) -/

/-- With `ADMIT_GENERAL = false` the dispatch table holds the source-named rows (R106). -/
theorem admits_eq_sourceNamed {cfg : Config} (h : cfg.admitGeneral = false) (op : Opcode) :
    admits cfg op = sourceNamed op := by
  rw [admits, h, Bool.false_or]

/-- A first byte whose row is missing fails the fetch before any operand byte is read (R306, R364). -/
theorem fetch_missing_base {s : State} {op : Byte} (hread : s.busRead s.regs.pc = .ok op) (hprefix : op ≠ 0xCB#8)
    (hrow : admits s.cfg (.base op) = false) : s.fetch = .error (.decodeError op false s.regs.pc) := by
  simp [State.fetch, hread, prefixByte, hprefix, hrow]

/-- A byte after the prefix whose row is missing fails the fetch at the address of the prefix (R306, R364). -/
theorem fetch_missing_cb {s : State} {op2 : Byte} (hread : s.busRead s.regs.pc = .ok 0xCB#8)
    (hread2 : s.busRead (s.regs.pc + 1#16) = .ok op2) (hrow : admits s.cfg (.cb op2) = false) :
    s.fetch = .error (.decodeError op2 true s.regs.pc) := by
  simp [State.fetch, hread, prefixByte, hread2, hrow]

/-- A running step whose fetch fails takes the fault after the start-of-step action (R362, R398). -/
theorem step_of_fetch_error {s : State} {f : Fault} (hrun : s.status = .running) (hboot : s.bootMissing = false)
    (hfetch : s.startOfStep.fetch = .error f) : step s = .next (s.startOfStep.stopped f) := by
  simp only [step, hrun, hboot, hfetch]; rfl

/-- The source names two kinds of rows of the secondary table: y = 2 with x = 0, which is RL, and x = 1, which is BIT
(R104). -/
theorem sourceNamed_cb (op2 : Byte) : sourceNamed (.cb op2) = true ↔ (opX op2 = 0 ∧ opY op2 = 2) ∨ opX op2 = 1 := by
  rcases hx : opX op2 with _ | _ | x <;> simp [sourceNamed, hx]

/-- Settles O13: each missing row fails the fetch, and the fields of RL and BIT are two ranges of bytes. -/
theorem generalKnowledgeRowsRemoved : Obligations.GeneralKnowledgeRowsRemoved := by
  refine ⟨?_, fun op2 => ?_⟩
  · rintro s _ hrun hboot hgeneral rfl
    obtain ⟨-, -, hcfg, -⟩ := startOfStep_frame s
    have rows : ∀ op, admits s.startOfStep.cfg op = sourceNamed op := admits_eq_sourceNamed (hcfg ▸ hgeneral)
    exact ⟨fun op hread hprefix hrow =>
        step_of_fetch_error hrun hboot (fetch_missing_base hread hprefix ((rows _).trans hrow)),
      fun op2 hread hread2 hrow =>
        step_of_fetch_error hrun hboot (fetch_missing_cb hread hread2 ((rows _).trans hrow))⟩
  · rw [sourceNamed_cb, opX, opY]
    omega

/-! ## NOP, HALT, STOP, DI and EI (R300, R302 to R305) -/

/-- HALT and STOP complete past their bytes, then hold the terminal status (R302, R303, R402). -/
theorem haltAfter_eq (op : Opcode) (n : Nat) (s : State) :
    haltAfter op n s = .next { s.doneWith (s.regs.past n) (s.cost op) with status := .halted } := rfl

/-- DI and EI complete past their one byte in the state with the toggle pending (R304, R305). -/
theorem deferIme_eq (op : Opcode) (target : Bool) (s : State) :
    deferIme op target s =
      .next (State.doneWith { s with imePend := some ⟨.two, target⟩ } (s.regs.past 1) (s.cost op)) := rfl

/-- NOP completes past its one byte (R300). -/
theorem completes_nop (s : State) : Completes .nop s (s.regs.past 1) := rfl

/-- Settles O59: NOP completes, HALT and STOP mean `haltAfter`, DI and EI mean `deferIme`. -/
theorem systemResult : Obligations.SystemResult := fun s =>
  ⟨completes_nop s, haltAfter_eq _ 1 s, fun _ => haltAfter_eq _ 2 s, deferIme_eq _ false s, deferIme_eq _ true s⟩

end Sys2Proof.Machine
end

section
/-! PROOFS. The statements of spec/50_ppu.md: the advance by cycles, the modes and their durations, the lines and the
frame, the pixels of a line, and the CPU's access to VRAM. -/

namespace Sys2Proof.Machine

section advance

variable {shades : ShadeColors} {mem : Memory} {p : Ppu}

/-! ## The advance with the LCD off and in two parts (R324, R325) -/

theorem advance_off (c : Nat) (h : p.enabled = false) : p.advance shades mem c = p := by
  rw [Ppu.advance, h]; rfl

theorem advance_enabled (c : Nat) : (p.advance shades mem c).enabled = p.enabled := by
  rw [Ppu.enabled, (advance_registers c p).1, Ppu.enabled]

/-- Two advances are one: LY, which the first sets by the countdown in VBlank, is no matter to the second. -/
theorem advance_add (a b : Nat) (hp : 1 ≤ p.countdown) :
    (p.advance shades mem a).advance shades mem b = p.advance shades mem (a + b) := by
  cases he : p.enabled with
  | false => rw [advance_off a he, advance_off b he, advance_off (a + b) he]
  | true =>
    have he' : (p.advance shades mem a).enabled = true := (advance_enabled a).trans he
    rw [advance_eq_run he', advance_eq_run he, advance_eq_run he, run_syncLy (run_countdown_pos hp), run_add hp]

/-! ## One mode (R321 to R323, R327) -/

theorem syncLy_visible (hm : p.mode ≠ .vblank) : p.syncLy = p := by
  cases h : p.mode
  case vblank => exact absurd h hm
  all_goals rw [Ppu.syncLy, h]

theorem syncLy_vblank (hm : p.mode = .vblank) : p.syncLy = { p with ly := vblankLy p.countdown } := by
  rw [Ppu.syncLy, hm]

/-- In a visible mode an advance by less than the countdown counts it down and nothing more (R323). -/
theorem advance_lt_visible {c : Nat} (he : p.enabled = true) (hm : p.mode ≠ .vblank) (h : c < p.countdown) :
    p.advance shades mem c = { p with countdown := p.countdown - c } := by
  rw [advance_eq_run he, run_lt h]
  exact syncLy_visible hm

/-- In VBlank an advance by less than the countdown counts it down and sets LY by what is left (R323, R327). -/
theorem advance_lt_vblank {c : Nat} (he : p.enabled = true) (hm : p.mode = .vblank) (h : c < p.countdown) :
    p.advance shades mem c = { p with countdown := p.countdown - c, ly := vblankLy (p.countdown - c) } := by
  rw [advance_eq_run he, run_lt h]
  exact syncLy_vblank hm

/-- A run by the countdown leaves the mode and nothing more (R323). -/
theorem run_exit {n : Nat} {q : Ppu} (hp : 1 ≤ n) (hc : p.countdown = n) (hq : p.leaveMode shades mem = q) :
    Ppu.run shades mem n p = q := by
  rw [run_ge (hc ▸ hp) hc.le, hc, Nat.sub_self, run_zero, hq]

theorem advance_exit (he : p.enabled = true) (hp : 1 ≤ p.countdown) :
    p.advance shades mem p.countdown = (p.leaveMode shades mem).syncLy := by
  rw [advance_eq_run he, run_exit hp rfl rfl]

/-- LY within VBlank does not wrap around (R327). -/
theorem vblankLy_toNat {n : Nat} (h : 1 ≤ n) : (vblankLy n).toNat = 144 + (4560 - n) / 456 := by
  rw [vblankLy, vblankLine, BitVec.toNat_ofNat]
  omega

/-- VBlank begins at line 144 (R327). -/
theorem vblankLy_entry : vblankLy 4560 = 144#8 := by decide

/-- The line after 143 is the first of VBlank (R332). -/
theorem ly_succ_of_last {l : Byte} (h : l.toNat = 143) : l + 1#8 = 144#8 := by bv_omega

/-! ## A visible line (R321, R354) -/

/-- The PPU with row LY rendered, and LY at the next line. -/
def Ppu.lineRendered (shades : ShadeColors) (mem : Memory) (p : Ppu) : Ppu :=
  { p with fb := p.fb.set p.ly.toNat (scanline shades mem p.scy p.bgp p.ly), ly := p.ly + 1#8 }

section line

variable (hm : p.mode = .oam) (hc : p.countdown = 83)

include hm hc

/-- From the start of OAM, 83, 175 and 207 cycles are the exits of OAM, Transfer and HBlank. -/
theorem run_line : Ppu.run shades mem 465 p =
    Ppu.leaveMode shades mem
      { p with mode := .hblank, countdown := 207, fb := p.fb.set p.ly.toNat (scanline shades mem p.scy p.bgp p.ly) } := by
  have hp : 1 ≤ p.countdown := by omega
  have oam : Ppu.run shades mem 83 p = { p with mode := .transfer, countdown := 175 } :=
    run_exit (by omega) hc (leaveMode_oam hm)
  have transfer : Ppu.run shades mem 175 { p with mode := .transfer, countdown := 175 } = { p with
      mode := .hblank, countdown := 207, fb := p.fb.set p.ly.toNat (scanline shades mem p.scy p.bgp p.ly) } :=
    run_exit (by omega) rfl (leaveMode_transfer rfl)
  calc Ppu.run shades mem 465 p
    _ = Ppu.run shades mem 207 (Ppu.run shades mem 175 (Ppu.run shades mem 83 p)) := by rw [run_add hp, run_add hp]
    _ = _ := by rw [oam, transfer]; exact run_exit (by omega) rfl rfl

theorem run_line_visible (hl : p.ly.toNat < 143) : Ppu.run shades mem 465 p = p.lineRendered shades mem := by
  rw [run_line hm hc, leaveMode_hblank_visible rfl (by bv_omega)]
  simp only [Ppu.lineRendered, hm, hc]

theorem run_line_last (hl : p.ly.toNat = 143) :
    Ppu.run shades mem 465 p = Ppu.lineRendered shades mem { p with mode := .vblank, countdown := 4560 } := by
  rw [run_line hm hc, leaveMode_hblank_last rfl (by bv_omega)]; rfl

end line

/-! ## A frame (R325, R346, R354) -/

/-- The first `n` rows of a frame rendered in one go. -/
def renderedRows (shades : ShadeColors) (mem : Memory) (scy bgp : Byte) (n : Nat) : Frame :=
  (List.range n).map fun l => scanline shades mem scy bgp (BitVec.ofNat 8 l)

/-- The PPU with the rows above line `n` rendered, and LY at line `n`. -/
def Ppu.atLine (shades : ShadeColors) (mem : Memory) (n : Nat) (p : Ppu) : Ppu :=
  { p with fb := renderedRows shades mem p.scy p.bgp n ++ p.fb.drop n, ly := BitVec.ofNat 8 n }

/-- Rendering row `n` under the rows above it. -/
theorem renderedRows_set {scy bgp : Byte} {n : Nat} {fb : Frame} (hn : n < fb.length) :
    (renderedRows shades mem scy bgp n ++ fb.drop n).set n (scanline shades mem scy bgp (BitVec.ofNat 8 n)) =
      renderedRows shades mem scy bgp (n + 1) ++ fb.drop (n + 1) := by
  have hlen : (renderedRows shades mem scy bgp n).length = n := by simp [renderedRows]
  rw [List.set_append_right _ _ hlen.le, hlen, Nat.sub_self, List.drop_eq_getElem_cons hn, List.set_cons_zero]
  simp [renderedRows, List.range_succ]

theorem lineRendered_atLine {n : Nat} (hn : n < p.fb.length) (h : n < 144) :
    Ppu.lineRendered shades mem (p.atLine shades mem n) = p.atLine shades mem (n + 1) := by
  have hly : (BitVec.ofNat 8 n).toNat = n := by simp; omega
  simp only [Ppu.lineRendered, Ppu.atLine, hly, renderedRows_set hn, BitVec.ofNat_add n 1]

section frame

variable (hm : p.mode = .oam) (hc : p.countdown = 83) (hl : p.ly = 0#8) (hf : p.fb.length = 144)

include hm hc hl hf

/-- From the start of a frame to the start of its line `n`. -/
theorem run_lines {n : Nat} (hn : n < 144) : Ppu.run shades mem (465 * n) p = p.atLine shades mem n := by
  induction n with
  | zero => simp [Ppu.atLine, renderedRows, ← hl]
  | succ n ih =>
    have hly : (p.atLine shades mem n).ly.toNat < 143 := by simp [Ppu.atLine]; omega
    calc Ppu.run shades mem (465 * (n + 1)) p
      _ = Ppu.run shades mem 465 (Ppu.run shades mem (465 * n) p) := (run_add (by omega)).symm
      _ = Ppu.run shades mem 465 (p.atLine shades mem n) := by rw [ih (by omega)]
      _ = Ppu.lineRendered shades mem (p.atLine shades mem n) := run_line_visible hm hc hly
      _ = p.atLine shades mem (n + 1) := lineRendered_atLine (by omega) (by omega)

/-- From the start of a frame to the start of its VBlank. -/
theorem run_visible_lines : Ppu.run shades mem (465 * 143 + 465) p =
    Ppu.atLine shades mem 144 { p with mode := .vblank, countdown := 4560 } := by
  have hp : 1 ≤ p.countdown := by omega
  rw [← run_add hp, run_lines hm hc hl hf (by omega), run_line_last (p := p.atLine shades mem 143) hm hc rfl]
  exact lineRendered_atLine (p := { p with mode := .vblank, countdown := 4560 }) (by simp [hf]) (by omega)

/-- A frame is its 144 visible lines and VBlank, whose exit hands it off. -/
theorem run_frame : Ppu.run shades mem 71520 p =
    { p with
      fb := renderedRows shades mem p.scy p.bgp 144
      framesOut := p.framesOut ++ [renderedRows shades mem p.scy p.bgp 144] } := by
  have hp : 1 ≤ p.countdown := by omega
  have hfb : renderedRows shades mem p.scy p.bgp 144 ++ p.fb.drop 144 = renderedRows shades mem p.scy p.bgp 144 := by
    rw [← hf, List.drop_length, List.append_nil]
  calc Ppu.run shades mem 71520 p
    _ = Ppu.run shades mem 4560 (Ppu.run shades mem (465 * 143 + 465) p) := by rw [run_add hp]
    _ = Ppu.run shades mem 4560 (Ppu.atLine shades mem 144 { p with mode := .vblank, countdown := 4560 }) := by
      rw [run_visible_lines hm hc hl hf]
    _ = Ppu.leaveMode shades mem (Ppu.atLine shades mem 144 { p with mode := .vblank, countdown := 4560 }) :=
      run_exit (by omega) rfl rfl
    _ = _ := by
      rw [leaveMode_vblank rfl]
      simp only [Ppu.atLine, hfb, hm, hc, hl]

end frame

end advance

/-- Settles O32: the advance is the identity while the LCD is off. -/
theorem lcdOffFreezesDisplay : Obligations.LcdOffFreezesDisplay :=
  ⟨fun _ _ c _ h => advance_off c h, fun _ c h => ⟨advance_off c h, rfl⟩⟩

/-- Settles O33: the form of the PPU is needed for a countdown of at least 1 alone. -/
theorem advanceIsAdditive : Obligations.AdvanceIsAdditive := fun _ _ a b _ h =>
  advance_add a b (loopOk_of_wf h).pos

/-- Settles O34: an advance by the countdown is one exit, and the exits are known mode by mode. -/
theorem modeTransitions : Obligations.ModeTransitions := by
  intro shades mem p he hp
  refine ⟨fun c hc hm => advance_lt_visible he hm hc, ?_⟩
  rw [advance_exit he hp]
  refine ⟨fun hm => ?_, fun hm => ?_, fun hm hl => ?_, fun hm hl => ?_, fun hm => ?_⟩
  · rw [leaveMode_oam hm, syncLy_visible (by simp)]
  · rw [leaveMode_transfer hm, syncLy_visible (by simp)]
  · rw [leaveMode_hblank_visible hm (by bv_omega), syncLy_visible (by simp)]
  · rw [leaveMode_hblank_last hm (by bv_omega), syncLy_vblank rfl, vblankLy_entry]
  · rw [leaveMode_vblank hm, syncLy_visible (by simp)]

/-- Settles O35: LY is set by the countdown that is left. -/
theorem vBlankScanlines : Obligations.VBlankScanlines := by
  intro shades mem c p he hm hle hc
  have hly := vblankLy_toNat (n := p.countdown - c) (by omega)
  have lo : 144 ≤ (vblankLy (p.countdown - c)).toNat := by omega
  have hi : (vblankLy (p.countdown - c)).toNat ≤ 153 := by omega
  rw [advance_lt_vblank he hm hc]
  exact ⟨hm, rfl, hly, lo, hi⟩

/-- Settles O37: the run over a line, with line 143 apart, after which LY is set by the countdown of VBlank. -/
theorem visibleLineTiming : Obligations.VisibleLineTiming := by
  intro shades mem p he hm hc hl
  rw [advance_eq_run he]
  by_cases last : p.ly.toNat = 143
  · rw [run_line_last hm hc last, if_pos last, if_pos last, syncLy_vblank rfl]
    simp only [Ppu.lineRendered, vblankLy_entry, ly_succ_of_last last]
  · rw [run_line_visible hm hc (by omega), syncLy_visible (by simp [Ppu.lineRendered, hm]), if_neg last, if_neg last]
    simp only [Ppu.lineRendered, hm, hc]

/-- Settles O38, by the run over a frame. -/
theorem frameTiming : Obligations.FrameTiming := by
  intro shades mem p he hm hc hl hf
  rw [advance_eq_run he, run_frame hm hc hl hf, syncLy_visible (by simp [hm])]; rfl

/-! ## The pixels of a line (R335 to R342) -/

/-- The tile index is read from the background map at 0x9800 (R337). -/
theorem tileIndex_eq_read (mem : Memory) (row x : Nat) :
    tileIndex mem row x = Memory.read mem (0x9800 + (32 * (row / 8) + x / 8)) := by
  rw [tileIndex, vramByte]
  exact congrArg _ (by omega)

/-- Two neighbouring bits of a number. -/
theorem shiftRight_mod_four (n k : Nat) :
    (n >>> k) % 4 = 2 * (if n.testBit (k + 1) then 1 else 0) + (if n.testBit k then 1 else 0) := by
  have h1 : n.testBit (k + 1) = decide ((n >>> k) / 2 % 2 = 1) := by
    rw [Nat.testBit_eq_decide_div_mod_eq, Nat.shiftRight_eq_div_pow, Nat.div_div_eq_div_mul, Nat.pow_succ]
  have h0 : n.testBit k = decide ((n >>> k) % 2 = 1) := by
    rw [Nat.testBit_eq_decide_div_mod_eq, Nat.shiftRight_eq_div_pow]
  simp only [h1, h0, decide_eq_true_eq]
  split_ifs <;> omega

/-- The shade is the bits `2ci + 1` and `2ci` of BGP (R340). -/
theorem shadeOf_eq_bits (bgp : Byte) (ci : Nat) :
    shadeOf bgp ci = 2 * (if bgp.getLsbD (2 * ci + 1) then 1 else 0) + (if bgp.getLsbD (2 * ci) then 1 else 0) :=
  shiftRight_mod_four bgp.toNat (2 * ci)

/-- The shade table lists its four colours in order (R341). -/
theorem shades_getElem? (t : ShadeColors) {s : Nat} (h : s < 4) :
    [t.shade0, t.shade1, t.shade2, t.shade3][s]? = some (ShadeColors.color t s) := by
  match s, h with
  | 0, _ => rfl
  | 1, _ => rfl
  | 2, _ => rfl
  | 3, _ => rfl

theorem scanline_getElem? (shades : ShadeColors) (mem : Memory) (scy bgp l : Byte) {x : Nat} (h : x < 160) :
    (scanline shades mem scy bgp l)[x]? = some (pixelColor shades mem scy bgp l x) := by
  simp [scanline, h]

/-- Rendering leaves every row but LY alone (R342). -/
theorem renderLine_fb_other (shades : ShadeColors) (mem : Memory) {p : Ppu} {y : Nat} (h : y ≠ p.ly.toNat) :
    (p.renderLine shades mem).fb[y]? = p.fb[y]? :=
  List.getElem?_set_ne h.symm

/-- Settles O36: the addresses of R337 and R338, then the two bits of BGP as the shade. -/
theorem renderedPixel : Obligations.RenderedPixel := by
  intro shades mem scy bgp l x hx row tile lo hi ci shade
  have hpixel : pixelColor shades mem scy bgp l x = ShadeColors.color shades (shadeOf bgp ci) := by
    have hrow : backgroundRow scy l = row := BitVec.toNat_add l scy
    simp only [pixelColor, hrow, tileIndex_eq_read, vramByte, Nat.mul_comm _ 16, Nat.mul_comm _ 2, colorIndex,
      colorIndex.b2nBit]
    rfl
  have hshade : shadeOf bgp ci = shade := shadeOf_eq_bits bgp ci
  have hlt : shade < 4 := hshade ▸ Nat.mod_lt _ (by omega)
  refine ⟨scanline_length scy bgp l, ?_, fun p y hy => renderLine_fb_other shades mem hy⟩
  rw [scanline_getElem? _ _ _ _ _ hx, hpixel, hshade, shades_getElem? _ hlt]

/-! ## The CPU's access to VRAM (R350, R351) -/

theorem vramBlocked_iff (cfg : Config) (p : Ppu) : vramBlocked cfg p = true ↔
    cfg.vramPolicy = .blockOamTransfer ∧ p.lcdc.getLsbD 7 = true ∧ (p.mode = .oam ∨ p.mode = .transfer) := by
  simp [vramBlocked, Ppu.enabled, and_assoc]

/-- The VRAM row of the decoder (R52). -/
theorem regionOf_vram {a : Word} (h : 0x8000 ≤ a.toNat) (h' : a.toNat ≤ 0x9FFF) (b : Bool) : regionOf b a = .vram := by
  have bounds := regionOf_bounds b a
  cases hr : regionOf b a <;> rw [hr] at bounds <;> simp at bounds ⊢ <;> omega

/-- Settles O19: the VRAM row of the bus, by whether the CPU is kept out. -/
theorem vramBlocking : Obligations.VramBlocking := by
  intro s a v h h'
  simp only [← vramBlocked_iff, State.busRead, State.busWrite, regionOf_vram h h']
  exact ⟨fun blocked => by simp [blocked], fun free => by simp [free, State.memByte, State.setMemByte]⟩

end Sys2Proof.Machine
end

section
/-! PROOFS. The statements of spec/60_exceptions.md: what a fault restores and where it comes from, the fetch from an
unmapped address, what an instruction does to `ime`, the pending toggle and the status, and the checks of a load. -/

namespace Sys2Proof.Machine

/-! ## Taking a fault (R361 to R363) -/

/-- An instruction that ends a running state in a fault has raised it, after stores at its own addresses: of the three
ends the other two keep the state running or halt it. -/
theorem Effect.of_faulted {i : Instr} {s t : State} {rec : FaultRecord} (e : Effect i s t) (hrun : s.status = .running)
    (hfault : t.status = .faulted rec) :
    ∃ u f, Wrote (i.storeAddrs s) s u ∧ FaultOf i s f ∧ t = State.raise s u f ∧ rec = ⟨f, s.regs⟩ := by
  cases e with
  | fault u f w h =>
    cases hfault
    exact ⟨u, f, w, h, rfl, rfl⟩
  | done u g b p w hg hb hp hh =>
    obtain ⟨-, -, -, -, hstatus, -⟩ := w.frame
    have hu : u.status = .faulted rec := hfault
    rw [hstatus, hrun] at hu
    cases hu
  | halt g hg hh => cases hfault

/-- Settles O14: the state of a fault restores the engine, and the stores before it touch neither the cycle count nor
the inner state of the PPU. -/
theorem faultRestoresEngine : Obligations.FaultRestoresEngine := by
  intro i s t rec hrun hexec hfault
  obtain ⟨u, f, w, -, rfl, rfl⟩ := (effect_of hexec).of_faulted hrun hfault
  obtain ⟨-, -, -, cycles, -⟩ := w.frame
  have frame := w.storeFrame
  exact ⟨rfl, rfl, rfl, rfl, cycles, frame.mode, frame.countdown, frame.ly, frame.fb, frame.framesOut⟩

/-- Settles O15, by the four faults an instruction can raise. -/
theorem faultSources : Obligations.FaultSources := by
  intro i s t rec hrun hexec hfault
  obtain ⟨u, f, -, source, -, rfl⟩ := (effect_of hexec).of_faulted hrun hfault
  cases source with
  | decode u h => exact .inl ⟨u, h, rfl⟩
  | read a h unmapped => exact .inr (.inl ⟨a, h, unmapped, rfl⟩)
  | write a h unmapped => exact .inr (.inr (.inl ⟨a, h, unmapped, rfl⟩))
  | readOnly a h low => exact .inr (.inr (.inr ⟨a, h, low, rfl⟩))

/-! ## The fetch from an unmapped address (R54, R281, R364) -/

/-- The opcode byte is read first (R364). -/
theorem fetch_unmapped_opcode {s : State} (h : unmappedAddr s.regs.pc = true) :
    s.fetch = .error (.busError s.regs.pc .read) := by
  simp only [State.fetch, busRead_unmapped h]

/-- The byte after the prefix is read before its row is looked up (R364). -/
theorem fetch_unmapped_after_prefix {s : State} (hread : s.busRead s.regs.pc = .ok 0xCB#8)
    (h : unmappedAddr (s.regs.pc + 1#16) = true) : s.fetch = .error (.busError (s.regs.pc + 1#16) .read) := by
  simp [State.fetch, hread, prefixByte, busRead_unmapped h]

/-- An admitted first byte fails the fetch when its operand bytes fail (R364). -/
theorem fetch_operands_error {s : State} {op : Byte} {f : Fault} (hread : s.busRead s.regs.pc = .ok op)
    (hprefix : op ≠ 0xCB#8) (hrow : admits s.cfg (.base op) = true)
    (h : s.fetchBytes (instrLength op - 1) (s.regs.pc + 1#16) = .error f) : s.fetch = .error f := by
  simp [State.fetch, hread, prefixByte, hprefix, hrow, h]

/-- The first of the operand bytes fails at an unmapped address. -/
theorem fetchBytes_unmapped_first {s : State} {n : Nat} {a : Word} (hn : 0 < n) (h : unmappedAddr a = true) :
    s.fetchBytes n a = .error (.busError a .read) := by
  obtain ⟨k, rfl⟩ := Nat.exists_eq_succ_of_ne_zero hn.ne'
  simp only [State.fetchBytes, busRead_unmapped h]

/-- The second of two operand bytes fails at an unmapped address, after the first was read. -/
theorem fetchBytes_unmapped_second {s : State} {a : Word} {v : Byte} (hread : s.busRead a = .ok v)
    (h : unmappedAddr (a + 1#16) = true) : s.fetchBytes 2 a = .error (.busError (a + 1#16) .read) := by
  rw [State.fetchBytes, hread]
  simp only [fetchBytes_unmapped_first Nat.one_pos h]

/-- Settles O12: in each case the fetch fails, at the first of its reads that is unmapped. -/
theorem fetchFaultsInOrder : Obligations.FetchFaultsInOrder := by
  rintro s _ hrun hboot rfl
  have faults {f : Fault} := step_of_fetch_error (f := f) hrun hboot
  refine ⟨fun h => faults (fetch_unmapped_opcode h), fun hread h => faults (fetch_unmapped_after_prefix hread h),
    fun op hread hprefix hrow hlen h => ?_, fun op v hread hprefix hrow hlen hread1 h => ?_⟩
  · have first := fetchBytes_unmapped_first (s := s.startOfStep) (Nat.sub_pos_of_lt hlen) h
    exact faults (fetch_operands_error hread hprefix hrow first)
  · have next : s.startOfStep.regs.pc + 2#16 = s.startOfStep.regs.pc + 1#16 + 1#16 := by bv_omega
    rw [next] at h ⊢
    have second := fetchBytes_unmapped_second hread1 h
    exact faults (fetch_operands_error hread hprefix hrow (hlen ▸ second))

/-! ## Who writes `ime`, the pending toggle and the status (R31, R42, R367, R402) -/

/-- Only RETI writes `ime` by itself: a fault restores it, and DI and EI leave it to the start-of-step action. -/
theorem Effect.ime_eq {i : Instr} {s t : State} (e : Effect i s t) (hi : i ≠ .reti) : t.ime = s.ime := by
  cases e with
  | fault u f w h => rfl
  | done u g b p w hg hb hp hh => exact hb.resolve_right fun h => hi h.1
  | halt g hg hh => rfl

/-- Only DI and EI write the pending toggle (R304, R305). -/
theorem Effect.imePend_eq {i : Instr} {s t : State} (e : Effect i s t) (hdi : i ≠ .di) (hei : i ≠ .ei) :
    t.imePend = s.imePend := by
  cases e with
  | fault u f w h => rfl
  | done u g b p w hg hb hp hh => exact hp.resolve_right fun h => h.elim (hdi ·.1) (hei ·.1)
  | halt g hg hh => rfl

/-- HALT and STOP are no undefined bytes, and neither reads nor stores (R302, R303). -/
theorem accessFree_of_halts {i : Instr} (hh : i.halts = true) (s : State) :
    (∀ u, i ≠ Instr.undefined u) ∧ i.loadAddrs s = [] ∧ i.storeAddrs s = [] := by
  obtain rfl | ⟨n, rfl⟩ := (halts_iff i).1 hh
  all_goals
    refine ⟨fun u h => ?_, rfl, rfl⟩
    cases u <;> cases h

/-- An instruction that raises a fault is not one that halts. -/
theorem FaultOf.halts_eq_false {i : Instr} {s : State} {f : Fault} (h : FaultOf i s f) : i.halts = false := by
  rw [Bool.eq_false_iff]
  intro hh
  obtain ⟨defined, noLoad, noStore⟩ := accessFree_of_halts hh s
  cases h with
  | decode u h => exact defined u h
  | read a h _ => simp [noLoad] at h
  | write a h _ => simp [noStore] at h
  | readOnly a h _ => simp [noStore] at h

/-- From a running state HALT and STOP lead to `Halted`, and a fault or a completed instruction does not (R402). -/
theorem Effect.status_halted_iff {i : Instr} {s t : State} (e : Effect i s t) (hrun : s.status = .running) :
    t.status = .halted ↔ i.halts = true := by
  cases e with
  | fault u f w h => simp [State.raise, h.halts_eq_false]
  | done u g b p w hg hb hp hh =>
    obtain ⟨-, -, -, -, hstatus, -⟩ := w.frame
    simp [hstatus, hrun, hh]
  | halt g hg hh => simp [hh]

/-- Settles O26: on each of its three ends an instruction writes its own part of the engine alone. -/
theorem engineStateFrame : Obligations.EngineStateFrame := fun i _ _ h =>
  have effect := effect_of h
  ⟨effect.ime_eq, effect.imePend_eq, fun hrun => (effect.status_halted_iff hrun).trans (halts_iff i)⟩

/-! ## The checks of a load (R377, R390, R394) -/

theorem load_unreadable {inp : LoadInput} (h : inp.rom = none) : load inp = .error (.loadError .unreadable) := by
  simp only [load, h]

theorem load_tooShort {inp : LoadInput} {rom : List Byte} (h : inp.rom = some rom) (hlen : rom.length < 0x148) :
    load inp = .error (.loadError .tooShort) := by
  simp only [load, h, if_pos hlen]

/-- The mapper byte of an image that is long enough decides the load. -/
theorem load_of_mapper {inp : LoadInput} {rom : List Byte} {b : Byte} (h : inp.rom = some rom)
    (hlen : 0x148 ≤ rom.length) (hb : rom[0x147]? = some b) :
    load inp = if b = 0x00#8 then .ok (resetState inp rom) else .error (.loadError (.unsupportedMapper b)) := by
  have byte : rom.getD 0x147 0#8 = b := by rw [List.getD, hb, Option.getD_some]
  simp only [load, h, if_neg (Nat.not_lt.2 hlen), byte, mapperOf]
  split_ifs <;> rfl

/-- The overlay is what was supplied, when it has exactly 256 bytes (R394). -/
theorem bootOverlay_eq_some_iff {supplied : Option (List Byte)} {boot : List Byte} :
    bootOverlay supplied = some boot ↔ supplied = some boot ∧ boot.length = 256 := by
  cases supplied with
  | none => simp [bootOverlay]
  | some b =>
    simp only [bootOverlay, Option.ite_none_right_eq_some, Option.some.injEq]
    constructor
    · rintro ⟨hlen, rfl⟩
      exact ⟨rfl, hlen⟩
    · rintro ⟨rfl, hlen⟩
      exact ⟨hlen, rfl⟩

/-- Settles O40: the three checks in their order, and the reset of an image that passes them. -/
theorem loadChecks : Obligations.LoadChecks := by
  refine fun inp => ⟨load_unreadable, fun rom hrom => ⟨load_tooShort hrom, fun b hb hlen => ⟨fun hne => ?_, ?_⟩⟩⟩
  · rw [load_of_mapper hrom hlen hb, if_neg hne]
  · rintro rfl
    exact ⟨by rw [load_of_mapper hrom hlen hb, if_pos rfl], rfl, fun boot => bootOverlay_eq_some_iff⟩

end Sys2Proof.Machine
end

section
/-! PROOFS. The statements of spec/70_reset_and_hazards.md: the machine a load makes, the step and its start-of-step
action, the latency of DI and EI, and the cycle costs. -/

namespace Sys2Proof.Machine

/-! ## The start-of-step action and the latency of DI and EI (R304, R305, R397, R406) -/

theorem startOfStep_none {s : State} (h : s.imePend = none) : s.startOfStep = s := by
  simp only [State.startOfStep, h]

theorem startOfStep_two {s : State} {b : Bool} (h : s.imePend = some ⟨.two, b⟩) :
    s.startOfStep = { s with imePend := some ⟨.one, b⟩ } := by
  simp only [State.startOfStep, h]

theorem startOfStep_one {s : State} {b : Bool} (h : s.imePend = some ⟨.one, b⟩) :
    s.startOfStep = { s with ime := b, imePend := none } := by
  simp only [State.startOfStep, h]

/-- DI and EI leave `ime` alone and put their target off by two steps (R304, R305). -/
theorem exec_di_ei {target : Bool} {s t : State} (h : exec (if target then .ei else .di) s = .next t) :
    t.ime = s.ime ∧ t.imePend = some ⟨.two, target⟩ := by
  cases target with
  | false => cases h; exact ⟨rfl, rfl⟩
  | true => cases h; exact ⟨rfl, rfl⟩

/-- Of the two steps after DI and EI the second applies the target. -/
theorem startOfStep_startOfStep_ime {s : State} {b : Bool} (h : s.imePend = some ⟨.two, b⟩) :
    s.startOfStep.startOfStep.ime = b := by
  rw [startOfStep_two h, startOfStep_one rfl]

/-- Settles O8: the action by its three cases, and DI and EI by the toggle they leave pending. -/
theorem startOfStepAction : Obligations.StartOfStepAction := by
  refine ⟨fun _ => startOfStep_none, fun _ _ => startOfStep_two, fun _ _ => startOfStep_one,
    fun s t => ⟨fun h => ?_, fun h => ?_⟩⟩
  · obtain ⟨-, pending⟩ := exec_di_ei (target := false) h
    exact ⟨pending, startOfStep_startOfStep_ime pending⟩
  · obtain ⟨-, pending⟩ := exec_di_ei (target := true) h
    exact ⟨pending, startOfStep_startOfStep_ime pending⟩

/-- Settles O9: the action takes the count to 1 before the next instruction, which leaves the toggle alone, faulted or
not; so the action after it applies the target. -/
theorem interruptEnableLatency : Obligations.InterruptEnableLatency := by
  intro s t u target j hexec hdi hei hj
  obtain ⟨ime, pending⟩ := exec_di_ei hexec
  have start := startOfStep_two pending
  have effect := effect_of hj
  have startIme : t.startOfStep.ime = s.ime := by rw [start]; exact ime
  have pending' : u.imePend = some ⟨.one, target⟩ := by rw [effect.imePend_eq hdi hei, start]
  refine ⟨ime, startIme, fun hreti => (effect.ime_eq hreti).trans startIme, ?_, ?_⟩ <;> rw [startOfStep_one pending']

/-! ## The step (R394, R396, R398) -/

/-- A step request in `Halted` or `Faulted` changes nothing (R396). -/
theorem step_of_not_running {s : State} (h : s.status ≠ .running) : step s = .next s := by
  cases hs : s.status with
  | running => exact absurd hs h
  | halted => simp only [step, hs]
  | faulted rec => simp only [step, hs]

theorem stepReport_of_next {s t : State} (h : step s = .next t) :
    stepReport s = some (t, t.status, t.cyclesTotal - s.cyclesTotal) := by
  simp only [stepReport, h]

/-- Settles O10: the step stands still, so its report is of the same state at no cost. -/
theorem terminalStatus : Obligations.TerminalStatus := by
  intro s h
  have still := step_of_not_running h
  exact ⟨still, by rw [stepReport_of_next still, Nat.sub_self]⟩

theorem bootMissing_iff (s : State) : s.bootMissing = true ↔ s.bootLatch = true ∧ s.cfg.boot = none := by
  simp [State.bootMissing]

theorem step_of_bootMissing {s : State} (hrun : s.status = .running) (hboot : s.bootMissing = true) :
    step s = .refused .bootRomAbsent := by
  simp only [step, hrun, hboot, if_true]

/-- A running step whose fetch succeeds is the instruction fetched, after the start-of-step action (R398). -/
theorem step_of_fetch_ok {s : State} {i : Instr} (hrun : s.status = .running) (hboot : s.bootMissing = false)
    (hfetch : s.startOfStep.fetch = .ok i) : step s = exec i s.startOfStep := by
  simp only [step, hrun, hboot, hfetch]; rfl

/-- A running step with its overlay present answers a next state: the fault of the fetch, or what the instruction
answers. -/
theorem step_answers {s : State} (hrun : s.status = .running) (hboot : s.bootMissing = false) :
    ∃ t, step s = .next t := by
  cases hfetch : s.startOfStep.fetch with
  | error f => exact ⟨_, step_of_fetch_error hrun hboot hfetch⟩
  | ok i =>
    obtain ⟨t, hexec, -⟩ := exec_ends i s.startOfStep
    exact ⟨t, (step_of_fetch_ok hrun hboot hfetch).trans hexec⟩

/-- Settles O11: the missing overlay is the one refusal of a step. -/
theorem stepStopsOnlyWithoutBootRom : Obligations.StepStopsOnlyWithoutBootRom := by
  intro s
  rw [← bootMissing_iff]
  refine ⟨fun ⟨hrun, hboot⟩ => step_of_bootMissing hrun hboot, fun h => ?_⟩
  by_cases hrun : s.status = .running
  · exact step_answers hrun (Bool.eq_false_iff.2 fun hboot => h ⟨hrun, hboot⟩)
  · exact ⟨s, step_of_not_running hrun⟩

/-! ## The fetch of an encoded instruction (R90, R93, R94, R106) -/

/-- The bus reads from `a` on give the bytes of a list. -/
def State.Holds (s : State) (a : Word) (bytes : List Byte) : Prop :=
  ∀ k v, bytes[k]? = some v → s.busRead (a + BitVec.ofNat 16 k) = .ok v

theorem State.holds_cons {s : State} {a : Word} {v : Byte} {vs : List Byte} (h : s.Holds a (v :: vs)) :
    s.busRead a = .ok v ∧ s.Holds (a + 1#16) vs := by
  constructor
  · simpa using h 0 v rfl
  · intro k w hk
    have next : a + 1#16 + BitVec.ofNat 16 k = a + BitVec.ofNat 16 (k + 1) := by
      rw [BitVec.add_assoc, ← BitVec.ofNat_add, Nat.add_comm]
    rw [next]
    exact h (k + 1) w hk

/-- Fetching as many bytes as a list has gives the list, where the bus holds it. -/
theorem fetchBytes_of_holds {s : State} {a : Word} {bytes : List Byte} (h : s.Holds a bytes) :
    s.fetchBytes bytes.length a = .ok bytes := by
  induction bytes generalizing a with
  | nil => rfl
  | cons v vs ih =>
    obtain ⟨hread, hrest⟩ := State.holds_cons h
    simp only [List.length_cons, State.fetchBytes, hread, ih hrest]

/-- An admitted byte after the prefix is fetched through the secondary table (R93). -/
theorem fetch_cb {s : State} {op2 : Byte} (hread : s.busRead s.regs.pc = .ok 0xCB#8)
    (hread2 : s.busRead (s.regs.pc + 1#16) = .ok op2) (hrow : admits s.cfg (.cb op2) = true) :
    s.fetch = .ok (decodeCb op2) := by
  simp [State.fetch, hread, prefixByte, hread2, hrow]

/-- An admitted first byte is fetched through the base table, with its operand bytes (R94). -/
theorem fetch_base {s : State} {op : Byte} {operands : List Byte} (hread : s.busRead s.regs.pc = .ok op)
    (hprefix : op ≠ 0xCB#8) (hrow : admits s.cfg (.base op) = true)
    (hoperands : s.fetchBytes (instrLength op - 1) (s.regs.pc + 1#16) = .ok operands) :
    s.fetch = .ok (decodeBase op (operands.getD 0 0#8) (operands.getD 1 0#8)) := by
  simp [State.fetch, hread, prefixByte, hprefix, hrow, hoperands]

/-- The fetch gives an admitted well-formed instruction whose encoding stands at PC. -/
theorem fetch_of_holds_encode {s : State} {i : Instr} (hwf : i.wellFormed = true)
    (hrow : admits s.cfg i.opcode = true) (h : s.Holds s.regs.pc (encode i)) : s.fetch = .ok i := by
  obtain ⟨op, operands, henc, hcases⟩ := encode_cases i hwf
  rw [henc] at h
  obtain ⟨hread, hrest⟩ := State.holds_cons h
  obtain ⟨rfl, op2, rfl, hop, hdec⟩ | ⟨hprefix, hop, hcount, hdec⟩ := hcases <;> rw [hop] at hrow <;> rw [← hdec]
  · exact fetch_cb hread (State.holds_cons hrest).1 hrow
  · exact fetch_base hread hprefix hrow (hcount ▸ fetchBytes_of_holds hrest)

/-- Settles O7: the fetch gives back the encoded instruction, and the step runs it. -/
theorem stepRunsDecodedInstruction : Obligations.StepRunsDecodedInstruction := by
  intro s i hrun hboot hwf hrow h
  obtain ⟨-, -, hcfg, -, -, hregs, -⟩ := startOfStep_frame s
  rw [← hcfg] at hrow
  rw [← hregs] at h
  exact step_of_fetch_ok hrun hboot (fetch_of_holds_encode hwf hrow h)

/-! ## The cycle costs (R353, R398, R400, R413 to R415) -/

/-- The PPU with the three display registers of another. -/
def Ppu.withRegistersOf (p q : Ppu) : Ppu := { p with lcdc := q.lcdc, scy := q.scy, bgp := q.bgp }

/-- Stores change the three display registers of the PPU and nothing else of it (R334). -/
theorem StoreFrame.ppu_eq {as : List Word} {s u : State} (h : StoreFrame as s u) :
    u.ppu = s.ppu.withRegistersOf u.ppu := by
  simp only [Ppu.withRegistersOf, ← h.mode, ← h.countdown, ← h.ly, ← h.fb, ← h.framesOut]

/-- From `s` to `t` the cost `c` was charged once, and the PPU advanced by it over the memory of `t`, with the display
registers of `t` (R353, R398, R400). -/
def Charged (c : Nat) (s t : State) : Prop :=
  t.cyclesTotal = s.cyclesTotal + c ∧ t.ppu = Ppu.advance s.cfg.shades t.mem c (s.ppu.withRegistersOf t.ppu)

/-- Retiring after the stores of an instruction charges its cost once. -/
theorem Wrote.charged_retire {as : List Word} {s u : State} (w : Wrote as s u) (c : Nat) :
    Charged c s (u.retire c) := by
  obtain ⟨-, -, -, hcycles, -, hcfg⟩ := w.frame
  obtain ⟨hlcdc, hscy, hbgp⟩ := retire_ppu_registers u c
  have registers : s.ppu.withRegistersOf (u.retire c).ppu = u.ppu := by
    rw [w.storeFrame.ppu_eq, Ppu.withRegistersOf, hlcdc, hscy, hbgp]
    rfl
  exact ⟨by rw [State.retire_cyclesTotal, hcycles], by rw [registers, ← hcfg]; rfl⟩

/-- An instruction that does not fault has charged its cost, whether it completed or halted. -/
theorem Effect.charged {i : Instr} {s t : State} (e : Effect i s t) (h : ∀ rec, t.status ≠ .faulted rec) :
    Charged (chargeOf i s) s t := by
  cases e with
  | fault u f w hf => exact absurd rfl (h _)
  | done u g b p w hg hb hp hh => exact w.charged_retire _
  | halt g hg hh => exact (Wrote.stop [] s).charged_retire _

/-- Settles O27, by the two ends of an instruction that are no fault. -/
theorem cycleAccounting : Obligations.CycleAccounting := fun _ _ _ _ hexec h => (effect_of hexec).charged h

/-- What an opcode costs at the default parameters, taken and not taken (R413, R414). -/
def standardCost (op : Opcode) : Cost :=
  ⟨instrCost Config.standard op true, instrCost Config.standard op false⟩

/-- The cost depends on the two cost parameters alone. -/
theorem instrCost_congr {cfg cfg' : Config} (hc : cfg.costChanges = cfg'.costChanges)
    (ho : cfg.cbOverhead = cfg'.cbOverhead) : instrCost cfg = instrCost cfg' := by
  funext op taken
  cases op <;> simp only [instrCost, cycleCost, prefixOverhead, hc, ho]

/-- The table of R413 and R414 agrees with the instruction rules on every row: each opcode has the cost of its rule, and
an undefined byte has none. -/
theorem standardCost_opcode (i : Instr) : standardCost i.opcode = i.ruleCost := by
  cases i <;> rfl

/-- Settles O41: at the default parameters the cost is the row of the table, which the rule of the instruction gives. -/
theorem defaultCosts : Obligations.DefaultCosts := by
  refine ⟨⟨rfl, rfl⟩, fun cfg i hc ho _ => ?_⟩
  rw [instrCost_congr (cfg' := Config.standard) hc ho, ← standardCost_opcode]
  exact ⟨rfl, rfl⟩

/-! ## The load (R390, R392, D9) -/

/-- The store after a load reads the last byte that `INIT_RAM` gives for an address it backs (D9). -/
theorem initMemory_read_last {before after : List Host.Cell} {a : Nat} {v : Byte} (hlast : ∀ w, (a, w) ∉ after)
    (ha : ramAddr a = true) : Memory.read (initMemory (before ++ (a, v) :: after)) a = v := by
  have backed : (before ++ (a, v) :: after).filter (fun c => ramAddr c.1) =
      before.filter (fun c => ramAddr c.1) ++ (a, v) :: after.filter (fun c => ramAddr c.1) := by simp [ha]
  rw [initMemory, backed, Memory.ofCells, List.foldl_append, List.foldl_cons]
  obtain ⟨hwf, -⟩ := foldl_write_read (before.filter fun c => ramAddr c.1) [] rfl
  obtain ⟨-, rest⟩ := foldl_write_read (after.filter fun c => ramAddr c.1) _ (Memory.write_wf hwf a v)
  rw [rest a fun w hw => hlast w (List.mem_of_mem_filter hw)]
  exact Memory.read_write_same hwf a v

/-- An address that `INIT_RAM` does not name reads 0 (log 3). -/
theorem initMemory_read_unlisted {cells : List Host.Cell} {a : Nat} (h : ∀ v, (a, v) ∉ cells) :
    Memory.read (initMemory cells) a = 0x00#8 :=
  (foldl_write_read _ [] rfl).2 a fun v hv => h v (List.mem_of_mem_filter hv)

/-- The pixel of a row-major frame (R342). -/
theorem frameOf_pixel (px : List Color) {x y : Nat} (hx : x < 160) (hy : y < 144) :
    ∃ row, (frameOf px)[y]? = some row ∧ row[x]? = some (px.getD (y * 160 + x) 0#32) := by
  refine ⟨(List.range 160).map fun x => px.getD (y * 160 + x) 0#32, ?_, ?_⟩
  · rw [frameOf, List.getElem?_map, List.getElem?_range hy, Option.map_some]
  · rw [List.getElem?_map, List.getElem?_range hx, Option.map_some]

/-- Settles O31: a load that succeeds makes a reset state, whose store and frame buffer are those of `INIT_RAM`. -/
theorem loadedMachineSatisfiesInvariant : Obligations.LoadedMachineSatisfiesInvariant := by
  intro inp s hload
  obtain ⟨rom, -, rfl⟩ := load_ok hload
  refine ⟨resetState_inv inp rom, fun before after a v hcells hlast ha => ?_, fun a => initMemory_read_unlisted,
    fun x y hx hy => frameOf_pixel inp.initFb hx hy⟩
  simp only [resetState, hcells]
  exact initMemory_read_last hlast ha

end Sys2Proof.Machine
end
